-- ==== Sys2Proof/Word.lean ====
section
/-! DEFINITION. The plainest words of the TWD-410: a byte of a frame, a loop address. -/

namespace Sys2Proof

/-- One byte of a frame, a payload or a table record (11.1). -/
abbrev Byte := BitVec 8

/-- A loop address, 0 to 63; 63 means all stations (R8) and is no station's own address. -/
abbrev Addr := Fin 64

end Sys2Proof
end

