-- ==== Sys2Proof/Syntax.lean ====
section
/-! DEFINITION. The commands of the TWD-410: one constructor for each row of the opcode table. -/

namespace Sys2Proof

/-- The two loop ports. -/
inductive Port where
  | e | w
  deriving DecidableEq, Repr

/-- The port by which a frame received on `p` leaves (R8). -/
def Port.other : Port → Port
  | .e => .w
  | .w => .e

/-- A unit that the part can hold a record for: G0 to G7, S0 to S15, F0 to F31, the bus meter. -/
inductive UnitRef where
  | genset (g : Fin 8)
  | pv (b : Fin 16)
  | feeder (f : Fin 32)
  | busmeter
  deriving DecidableEq, Repr

/-- What a loop port has received when a reception ends (R2, R3): whether the sender ended it with
the abort delimiter, whether the opening and the closing delimiter were seen, and the bytes between. -/
structure RxFrame where
  aborted : Bool
  opening : Bool
  closing : Bool
  bytes   : List Byte
  deriving DecidableEq, Repr

/-- The commands: the operations and events of `spec/opcode_table.json`, in the table's order.
A directive row carries the source of the directive, its token and its argument bytes. -/
inductive Instr where
  /-- Power applied, or RST_N released, with these levels on ADDR[5:0] and MNT (R23). -/
  | powerUpOrPinReset (strap : Addr) (mntHigh : Bool)
  /-- A reception ends on a port (R2). -/
  | frameReceive (p : Port) (f : RxFrame)
  | readTable (src : Addr) (token : Byte) (args : List Byte)
  | writeTable (src : Addr) (token : Byte) (args : List Byte)
  | clearShadow (src : Addr) (token : Byte) (args : List Byte)
  | commit (src : Addr) (token : Byte) (args : List Byte)
  | readStatus (src : Addr) (token : Byte) (args : List Byte)
  | ackNotices (src : Addr) (token : Byte) (args : List Byte)
  | readUnit (src : Addr) (token : Byte) (args : List Byte)
  | readBalance (src : Addr) (token : Byte) (args : List Byte)
  | readStack (src : Addr) (token : Byte) (args : List Byte)
  | setMode (src : Addr) (token : Byte) (args : List Byte)
  | clearLockout (src : Addr) (token : Byte) (args : List Byte)
  | blackStart (src : Addr) (token : Byte) (args : List Byte)
  | abandon (src : Addr) (token : Byte) (args : List Byte)
  | restart (src : Addr) (token : Byte) (args : List Byte)
  | lossOfSignal (p : Port)
  | errorWindowExpiry (p : Port)
  | forwardTransmitDone (p : Port)
  | insertionOpportunity (p : Port)
  | insertionComplete (p : Port)
  | lostTimerExpiry (src : Addr)
  | lateTimerExpiry (u : UnitRef)
  | roundTimerExpiry
  | crankTimerExpiry (g : Fin 8)
  | restTimerExpiry (g : Fin 8)
  | warmTimerExpiry (g : Fin 8)
  | hotTimerExpiry (g : Fin 8)
  | syncTimerExpiry (g : Fin 8)
  | minRunTimerExpiry (g : Fin 8)
  | unloadTimerExpiry (g : Fin 8)
  | coolTimerExpiry (g : Fin 8)
  | stopTimerExpiry (g : Fin 8)
  | confirmTimerExpiry (f : Fin 32)
  /-- Record `n` of table 6 is stage `n + 1`. -/
  | stageDelayExpiry (n : Fin 6)
  | recoverTimerExpiry
  | restoreDwellExpiry
  | restoreIntervalExpiry
  | secondsCountTick
  | surveyTimerExpiry
  | clearDownTimerExpiry
  | blackStartLimitExpiry
  | energizeTimerExpiry
  | stepIntervalExpiry
  | capacityHoldExpiry
  | pvHoldExpiry
  | pvGapExpiry
  | storeSaveDone
  | mntLineLow
  | mntLineHigh
  | pulseTimerExpiry
  | trainTimerExpiry
  | lineModeTimerExpiry
  deriving DecidableEq, Repr

end Sys2Proof
end

