-- ==== Sys2Proof/WellFormed.lean ====
section
/-! DEFINITION. Which commands can occur: the limits that the loop puts on their operands. -/

namespace Sys2Proof

/-- A directive reaches the part from a station, whose address is 0 to 62, in a payload of at most
48 bytes, two of which are the code and the token (R2, 11.4). -/
def directiveWf (src : Addr) (args : List Byte) : Bool :=
  src.val < 63 && args.length ≤ 46

/-- The well-formed commands. -/
def Instr.wf : Instr → Bool
  | .readTable src _ args | .writeTable src _ args | .clearShadow src _ args
  | .commit src _ args | .readStatus src _ args | .ackNotices src _ args
  | .readUnit src _ args | .readBalance src _ args | .readStack src _ args
  | .setMode src _ args | .clearLockout src _ args | .blackStart src _ args
  | .abandon src _ args | .restart src _ args => directiveWf src args
  | .lostTimerExpiry src => src.val < 63
  | .powerUpOrPinReset _ _ | .frameReceive _ _ | .lossOfSignal _ | .errorWindowExpiry _
  | .forwardTransmitDone _ | .insertionOpportunity _ | .insertionComplete _
  | .lateTimerExpiry _ | .roundTimerExpiry | .crankTimerExpiry _ | .restTimerExpiry _
  | .warmTimerExpiry _ | .hotTimerExpiry _ | .syncTimerExpiry _ | .minRunTimerExpiry _
  | .unloadTimerExpiry _ | .coolTimerExpiry _ | .stopTimerExpiry _ | .confirmTimerExpiry _
  | .stageDelayExpiry _ | .recoverTimerExpiry | .restoreDwellExpiry | .restoreIntervalExpiry
  | .secondsCountTick | .surveyTimerExpiry | .clearDownTimerExpiry | .blackStartLimitExpiry
  | .energizeTimerExpiry | .stepIntervalExpiry | .capacityHoldExpiry | .pvHoldExpiry
  | .pvGapExpiry | .storeSaveDone | .mntLineLow | .mntLineHigh | .pulseTimerExpiry
  | .trainTimerExpiry | .lineModeTimerExpiry => true

/-- The station that a command names as the source of a frame. -/
def Instr.station : Instr → Option Addr
  | .readTable src _ _ | .writeTable src _ _ | .clearShadow src _ _ | .commit src _ _
  | .readStatus src _ _ | .ackNotices src _ _ | .readUnit src _ _ | .readBalance src _ _
  | .readStack src _ _ | .setMode src _ _ | .clearLockout src _ _ | .blackStart src _ _
  | .abandon src _ _ | .restart src _ _
  | .lostTimerExpiry src => some src
  | .powerUpOrPinReset _ _ | .frameReceive _ _ | .lossOfSignal _ | .errorWindowExpiry _
  | .forwardTransmitDone _ | .insertionOpportunity _ | .insertionComplete _ | .lateTimerExpiry _
  | .roundTimerExpiry | .crankTimerExpiry _ | .restTimerExpiry _ | .warmTimerExpiry _
  | .hotTimerExpiry _ | .syncTimerExpiry _ | .minRunTimerExpiry _ | .unloadTimerExpiry _
  | .coolTimerExpiry _ | .stopTimerExpiry _ | .confirmTimerExpiry _ | .stageDelayExpiry _
  | .recoverTimerExpiry | .restoreDwellExpiry | .restoreIntervalExpiry | .secondsCountTick
  | .surveyTimerExpiry | .clearDownTimerExpiry | .blackStartLimitExpiry | .energizeTimerExpiry
  | .stepIntervalExpiry | .capacityHoldExpiry | .pvHoldExpiry | .pvGapExpiry | .storeSaveDone
  | .mntLineLow | .mntLineHigh | .pulseTimerExpiry | .trainTimerExpiry | .lineModeTimerExpiry => none

/-- The argument bytes of a directive; no other command has any. -/
def Instr.args : Instr → List Byte
  | .readTable _ _ args | .writeTable _ _ args | .clearShadow _ _ args | .commit _ _ args
  | .readStatus _ _ args | .ackNotices _ _ args | .readUnit _ _ args | .readBalance _ _ args
  | .readStack _ _ args | .setMode _ _ args | .clearLockout _ _ args | .blackStart _ _ args
  | .abandon _ _ args | .restart _ _ args => args
  | .powerUpOrPinReset _ _ | .frameReceive _ _ | .lossOfSignal _ | .errorWindowExpiry _
  | .forwardTransmitDone _ | .insertionOpportunity _ | .insertionComplete _ | .lostTimerExpiry _
  | .lateTimerExpiry _ | .roundTimerExpiry | .crankTimerExpiry _ | .restTimerExpiry _
  | .warmTimerExpiry _ | .hotTimerExpiry _ | .syncTimerExpiry _ | .minRunTimerExpiry _
  | .unloadTimerExpiry _ | .coolTimerExpiry _ | .stopTimerExpiry _ | .confirmTimerExpiry _
  | .stageDelayExpiry _ | .recoverTimerExpiry | .restoreDwellExpiry | .restoreIntervalExpiry
  | .secondsCountTick | .surveyTimerExpiry | .clearDownTimerExpiry | .blackStartLimitExpiry
  | .energizeTimerExpiry | .stepIntervalExpiry | .capacityHoldExpiry | .pvHoldExpiry
  | .pvGapExpiry | .storeSaveDone | .mntLineLow | .mntLineHigh | .pulseTimerExpiry
  | .trainTimerExpiry | .lineModeTimerExpiry => []

end Sys2Proof
end

