-- ==== Sys2Proof/Config.lean ====
section
/-! DEFINITION. What the manual leaves open: constants without a body. Nothing in Lean can say what
they are, so a theorem about the machine holds whatever they are. -/

namespace Sys2Proof.Config

/-- The bytes of a reply that the layouts of 11.4 give a place to but no content (log entry 20). -/
inductive OpenPlace where
  /-- READ STATUS, seconds left on the line-mode timer while it is stopped (R157). -/
  | lineSeconds (low : Bool)
  /-- READ STATUS, check number (`false`) or index (`true`) of a last commit result other than DROPPED. -/
  | commitDetail (index : Bool)
  /-- READ UNIT, byte `offset` of the values of a record whose values are absent (2.2). -/
  | absentValue (offset : Nat)
  /-- READ UNIT, the last loaded output of a genset while it is absent (R28). -/
  | lastLoaded (low : Bool)
  /-- READ UNIT, the state before UNSEEN of a genset that is not UNSEEN (R184). -/
  | stateBefore
  deriving DecidableEq, Repr

/-- The free content of such a byte: any value, and any other value at another reading `n`. -/
opaque openByte : OpenPlace → Nat → Byte

/-- The least value of the range of a PV block's rating (table 3), which no chapter states
(log entry 21). -/
opaque pvRatingLeast : Nat

end Sys2Proof.Config
end

