-- ==== Sys2Proof/Machine/Bank.lean ====
section
/-! DEFINITION. The nine tables of a bank, their records, and the empty values of each (R167, R172). -/

namespace Sys2Proof.Machine

/-- A record of table 2. Powers in kW, times in seconds (5.0, 11.5). -/
structure GenCfg where
  configured : Bool
  rating     : Nat
  minLoad    : Nat
  startRank  : Nat
  eligible   : Bool
  maxAttempts : Nat
  unloadThreshold : Nat
  crankTime  : Nat
  restTime   : Nat
  warmTime   : Nat
  syncTime   : Nat
  minRun     : Nat
  unloadTime : Nat
  coolTime   : Nat
  stopTime   : Nat
  deriving DecidableEq, Repr

/-- A record of table 3. -/
structure PvCfg where
  configured : Bool
  rating     : Nat
  rank       : Nat
  reconnect  : Nat
  deriving DecidableEq, Repr

/-- A record of table 4: cold factor in thousandths, restart load in kW. -/
structure FdrCfg where
  configured  : Bool
  coldFactor  : Nat
  restartLoad : Nat
  deriving DecidableEq, Repr

/-- A record of table 6: threshold in mHz below nominal, delay in ms, amount in kW. -/
structure StageCfg where
  enabled   : Bool
  threshold : Nat
  delay     : Nat
  amount    : Nat
  deriving DecidableEq, Repr

/-- A record of table 7: four places, each a feeder or empty. -/
structure StepCfg where
  enabled : Bool
  place0  : Option (Fin 32)
  place1  : Option (Fin 32)
  place2  : Option (Fin 32)
  place3  : Option (Fin 32)
  deriving DecidableEq, Repr

/-- One bank: the nine tables. A record of table 1 is the unit that it names, `none` for role NONE;
a position of table 5 is a feeder, `none` for the end marker; `guards` is the one record of table 9. -/
structure Bank where
  station   : Vector (Option UnitRef) 64
  genset    : Vector GenCfg 8
  pv        : Vector PvCfg 16
  feeder    : Vector FdrCfg 32
  shedOrder : Vector (Option (Fin 32)) 32
  stages    : Vector StageCfg 6
  steps     : Vector StepCfg 16
  params    : Vector Nat 40
  guards    : Vector Bool 8
  deriving DecidableEq, Repr

/-- The least and the greatest value of the parameter at each index of table 8 (R192). The records 6
and 29 hold two fields, each clamped to its own range; they are not read from this list. -/
def paramRanges : List (Nat × Nat) :=
  [(1, 8), (100, 10000), (1, 255), (10, 1000), (100, 10000), (1, 63), (0, 65535), (0, 500),
   (500, 1200), (10, 2000), (50, 1000), (1, 20000), (0, 20000), (0, 100), (1, 50), (0, 5000),
   (1, 3000), (1, 50), (0, 500), (20, 2000)]
  ++ [(1, 20), (1, 3), (0, 2000), (0, 100), (50, 5000), (0, 1000), (0, 60000), (0, 65535),
   (0, 65535), (0, 65535), (0, 7200), (0, 1), (500, 10000), (1, 60), (60, 1800), (5, 120),
   (1, 300), (0, 1800), (1, 300), (60, 7200)]

/-- The defaults of table 8 (R192). Supervisory addresses 1 and 63 stand at index 6 as 1 * 256 + 63. -/
def defaultParams : Vector Nat 40 :=
  #v[3, 1000, 8, 60, 600, 32, 319, 200, 900, 300, 200, 200, 300, 40, 3, 100, 1500, 5, 20, 100,
     8, 1, 50, 50, 500, 200, 5000, 30000, 10000, 0, 900, 0, 2000, 10, 600, 30, 20, 120, 10, 1800]

/-- The empty records of R172. -/
def GenCfg.empty : GenCfg :=
  ⟨false, 100, 0, 0, false, 1, 0, 1, 1, 0, 1, 0, 1, 0, 1⟩

def PvCfg.empty : PvCfg := ⟨false, min 4000 Config.pvRatingLeast, 0, 0⟩

def FdrCfg.empty : FdrCfg := ⟨false, 1000, 0⟩

def StageCfg.empty : StageCfg := ⟨false, 10, 0, 0⟩

def StepCfg.empty : StepCfg := ⟨false, none, none, none, none⟩

/-- Both banks after a power-up that finds no valid store (R172, R178). -/
def Bank.empty : Bank where
  station   := Vector.replicate 64 none
  genset    := Vector.replicate 8 GenCfg.empty
  pv        := Vector.replicate 16 PvCfg.empty
  feeder    := Vector.replicate 32 FdrCfg.empty
  shedOrder := Vector.replicate 32 none
  stages    := Vector.replicate 6 StageCfg.empty
  steps     := Vector.replicate 16 StepCfg.empty
  params    := defaultParams
  guards    := Vector.replicate 8 false

end Sys2Proof.Machine
end

