-- ==== Sys2Proof/Machine/State.lean ====
section
/-! DEFINITION. The state of the TWD-410, block by block as the introduction lists them, and its
value right after reset. Plain data throughout. -/

namespace Sys2Proof.Machine

/-- Why the machine stops. No command of the part ends in a fault: the manual gives every event an
outcome in every state, so this type has no constructor (safe: nothing is cut short). -/
inductive Fault where
  deriving DecidableEq, Repr

/-- Why a command is refused. -/
inductive Refusal where
  /-- Raised by `exec` alone, for a row that has no meaning yet. Safe: nothing is claimed of it. -/
  | notModelled (mnemonic : String)
  deriving DecidableEq, Repr

/-- A timer of the part: `none` while it is stopped, `some t` while it runs, to expire at the time
`t` of the model's clock in milliseconds. -/
abbrev Timer := Option Nat

/-! ## The loop -/

/-- R4 to R7. -/
inductive PortCond where
  | down | up | degraded
  deriving DecidableEq, Repr

/-- The codes of 11.2 that the part sends in ORDER frames and keeps as standing orders. -/
inductive OrderCode where
  | none | start | stop | unload | load | closeSync | closeDead | open | close
  | cap | disconnect | permit
  deriving DecidableEq, Repr

/-- The classes of order slots (1.7). -/
inductive OrderClass where
  | urgent | routine
  deriving DecidableEq, Repr

/-- The result codes of 11.2. -/
inductive ResultCode where
  | done | pending | busy | guarded | length | range | invalid | state | local | notPermitted
  | unknown
  deriving DecidableEq, Repr

/-- A frame by its fields (11.1): the header bytes as received or sent, and the payload. The payload
length and the check are those of the payload, computed where the frame is sent. -/
structure Frame where
  dst     : Byte
  src     : Byte
  hop     : Byte
  kind    : Byte
  seq     : Byte
  payload : List Byte
  deriving DecidableEq, Repr

/-- Which outbound entry is meant: the slot of a station, a segment of the answer at the head of the
FIFO, or the notice slot (1.5, R191). -/
inductive EntryRef where
  | order (a : Addr)
  | answer (segment : Nat)
  | notice
  deriving DecidableEq, Repr

/-- What a port's transmitter is doing (R10, R16). `forwarding` sends the oldest frame of the port's
buffer. `stale` is set when the entry being inserted has been replaced, emptied or taken away since
the insertion began (R20, R21). -/
inductive Tx where
  | idle
  | forwarding
  | inserting (ref : EntryRef) (frame : Frame) (stale : Bool)
  deriving DecidableEq, Repr

/-- How the last inserted frame of a port ended: not yet, with the closing delimiter (R17), with the
abort delimiter (R18), or cut off by a reset (R23). What a partner on the loop sees of it. -/
inductive TxEnd where
  | none | closed | aborted | cut
  deriving DecidableEq, Repr

/-- One loop port (1.2, 1.3). -/
structure PortState where
  cond       : PortCond
  goodCount  : Nat
  window     : Timer
  errTotal   : Nat
  errLength  : Bool
  errFraming : Bool
  errCheck   : Bool
  /-- The forwarding buffer of the frames that leave by this port, oldest first (R10). -/
  buffer     : List Frame
  overflow   : Nat
  tx         : Tx
  lastEnd    : TxEnd
  deriving DecidableEq, Repr

/-- An entry of the duplicate table (1.4). -/
structure DupEntry where
  valid : Bool
  last  : Byte
  lost  : Timer
  deriving DecidableEq, Repr

/-- The pending marks of an outbound entry (R15). -/
structure Marks where
  e : Bool
  w : Bool
  deriving DecidableEq, Repr

/-- The content of an order table slot (1.5); the destination is the slot's own address. -/
structure OrderSlot where
  cls   : OrderClass
  code  : OrderCode
  tag   : Byte
  cap   : Nat
  hop   : Nat
  seq   : Byte
  age   : BitVec 32
  marks : Marks
  deriving DecidableEq, Repr

/-- One segment of an answer (R191). -/
structure Segment where
  hop   : Nat
  seq   : Byte
  data  : List Byte
  marks : Marks
  deriving DecidableEq, Repr

/-- An entry of the answer FIFO (1.5, 11.4). -/
structure Answer where
  dst     : Addr
  code    : Byte
  token   : Byte
  result  : ResultCode
  clamped : Bool
  segs    : List Segment
  deriving DecidableEq, Repr

/-- The island states of chapter 7. -/
inductive Island where
  | unconfigured | survey | balancing | blackout | firstSource | energizing | restoring
  | pvReturn | abandoned
  deriving DecidableEq, Repr

/-- The modes of chapter 8. -/
inductive Mode where
  | auto | hold | commissioning
  deriving DecidableEq, Repr

/-- The content of the notice slot (1.5, R187). -/
structure NoticeEntry where
  dst    : Addr
  hop    : Nat
  seq    : Byte
  flags  : BitVec 16
  island : Island
  mode   : Mode
  marks  : Marks
  deriving DecidableEq, Repr

/-- Loop ports, intake filter and outbound scheduler. `strap` is ADDR[5:0] as sampled at the last
power-up or pin reset. -/
structure Loop where
  strap      : Addr
  portE      : PortState
  portW      : PortState
  dup        : Vector DupEntry 63
  orders     : Vector (Option OrderSlot) 64
  ageCounter : BitVec 32
  answers    : List Answer
  notice     : Option NoticeEntry
  seqCounter : Byte
  deriving DecidableEq, Repr

/-! ## The live picture -/

inductive Freshness where
  | fresh | late | lost
  deriving DecidableEq, Repr

inductive Engine where
  | stopped | cranking | running | fault
  deriving DecidableEq, Repr

inductive Breaker where
  | open | closed
  deriving DecidableEq, Repr

/-- The values of a tapped GEN report: raw and clamped (R28). -/
structure GenValues where
  engine  : Engine
  breaker : Breaker
  inAuto  : Bool
  rawOut  : Int
  out     : Nat
  echoCode : Byte
  echoTag  : Byte
  deriving DecidableEq, Repr

/-- The store's part of a genset record (2.2, 2.4). -/
structure GenRec where
  vals       : Option GenValues
  lastLoaded : Option Nat
  fresh      : Freshness
  late       : Timer
  nRunning   : Nat
  nStopped   : Nat
  nClosed    : Nat
  nOpen      : Nat
  deriving DecidableEq, Repr

/-- R29. -/
structure PvValues where
  connected : Bool
  rawOut    : Int
  out       : Nat
  rawAvail  : Int
  avail     : Nat
  echoCode  : Byte
  echoTag   : Byte
  echoCap   : Nat
  deriving DecidableEq, Repr

structure PvRec where
  vals  : Option PvValues
  fresh : Freshness
  late  : Timer
  deriving DecidableEq, Repr

/-- R30. -/
structure FdrValues where
  breaker  : Breaker
  rawLoad  : Int
  load     : Nat
  echoCode : Byte
  echoTag  : Byte
  deriving DecidableEq, Repr

structure FdrRec where
  vals  : Option FdrValues
  fresh : Freshness
  late  : Timer
  deriving DecidableEq, Repr

/-- R31: deviation in mHz, voltage in thousandths of nominal. -/
structure BusValues where
  rawDev  : Int
  dev     : Int
  rawVolt : Nat
  volt    : Nat
  deriving DecidableEq, Repr

structure BusRec where
  vals     : Option BusValues
  fresh    : Freshness
  late     : Timer
  nDead    : Nat
  nLive    : Nat
  nSettled : Nat
  deriving DecidableEq, Repr

/-- The picture store. -/
structure Picture where
  gen : Vector GenRec 8
  pv  : Vector PvRec 16
  fdr : Vector FdrRec 32
  bus : BusRec
  roleMismatch : BitVec 16
  formCount    : BitVec 16
  deriving DecidableEq, Repr

/-! ## Balance dispatch -/

/-- The figures of a stop test (R57). -/
structure StopFigures where
  c : Int
  x : Int
  d : Int
  r : Int
  m : Int
  deriving DecidableEq, Repr

/-- The last round figures (3.11). -/
structure Figures where
  valid : Bool
  pG    : Int
  pU    : Int
  pS    : Int
  pL    : Int
  d     : Int
  e     : Int
  a     : Int
  cOn   : Int
  mOn   : Int
  xMl   : Int
  xStar : Int
  xCmd  : Int
  dd    : Int
  rReq  : Int
  h     : Int
  m     : Int
  pPend : Int
  startNeed   : Bool
  startPassed : Bool
  stop        : Option StopFigures
  stopRequest : Option (Fin 8)
  deficit     : Option Int
  lowLoad     : Bool
  deriving DecidableEq, Repr

/-- The balance engine. -/
structure Balance where
  roundTimer   : Timer
  fig          : Figures
  startDwell   : Nat
  stopDwell    : Nat
  deficitDwell : Nat
  stopCand     : Option (Fin 8)
  rampBase     : Int
  deriving DecidableEq, Repr

/-! ## Solar curtailment -/

inductive PvState where
  | off | waiting | on
  deriving DecidableEq, Repr

/-- The job's part of a PV block record (4.0). `cls` is the class with which the standing order is
sent again (R75). -/
structure PvJob where
  state      : PvState
  order      : OrderCode
  cap        : Option Nat
  tag        : Byte
  sendCount  : Nat
  lastSend   : Option Nat
  taken      : Bool
  unanswered : Bool
  cls        : OrderClass
  allotment  : Option Nat
  deriving DecidableEq, Repr

/-- The curtailment allocator; `fractions` by rank 0 to 3, in thousandths (R73). -/
structure Curtailment where
  jobs      : Vector PvJob 16
  fractions : Vector Nat 4
  sum       : Int
  u         : Int
  deriving DecidableEq, Repr

/-! ## Diesel set sequencing -/

inductive GenState where
  | notReady | standby | cranking | resting | warmup | hot | syncing | online | unloading
  | cooldown | stopping | lockout | unseen
  deriving DecidableEq, Repr

/-- The min-run timer: stopped, running to a time of the clock, or expired (R92). -/
inductive MinRun where
  | stopped
  | running (t : Nat)
  | expired
  deriving DecidableEq, Repr

/-- The job's part of a genset record (5.0). -/
structure GenJob where
  state      : GenState
  before     : Option GenState
  order      : OrderCode
  tag        : Byte
  sendCount  : Nat
  lastSend   : Option Nat
  taken      : Bool
  unanswered : Bool
  cls        : OrderClass
  attempts   : Nat
  mark       : Bool
  sup        : Timer
  minRun     : MinRun
  deriving DecidableEq, Repr

/-- A change of a genset's state on its way to the black-start controller (7.0): the set, the states,
whether the set bore the first-source mark before, and the island state in which it came about. -/
structure GenChange where
  g      : Fin 8
  old    : GenState
  new    : GenState
  marked : Bool
  island : Island
  deriving DecidableEq, Repr

/-- The set sequencer. `changes` holds, inside one event, the changes not yet handed on; it is empty
between events. -/
structure Sequencer where
  jobs    : Vector GenJob 8
  changes : List GenChange
  deriving DecidableEq, Repr

/-! ## Feeder shedding -/

inductive FdrState where
  | closed | openOther | shedPending | shed | restoring | heldOpen | stuck
  deriving DecidableEq, Repr

/-- The job's part of a feeder record (6.0). -/
structure FdrJob where
  state      : FdrState
  order      : OrderCode
  tag        : Byte
  sendCount  : Nat
  lastSend   : Option Nat
  taken      : Bool
  unanswered : Bool
  cls        : OrderClass
  confirm    : Timer
  openConfirmed : Bool
  deriving DecidableEq, Repr

inductive StageCond where
  | idle | armed | fired
  deriving DecidableEq, Repr

structure StageState where
  cond  : StageCond
  delay : Timer
  deriving DecidableEq, Repr

/-- R120; record `n` of table 6 is stage `n + 1`. -/
inductive ShedReason where
  | stage (n : Fin 6)
  | sourceLoss
  | deficit
  deriving DecidableEq, Repr

/-- R123. -/
structure StackEntry where
  feeder : Fin 32
  load   : Nat
  reason : ShedReason
  time   : Nat
  deriving DecidableEq, Repr

/-- The shedding unit; the stack is newest first. -/
structure Shedding where
  jobs      : Vector FdrJob 32
  stages    : Vector StageState 6
  ufActive  : Bool
  shedEvent : Int
  recover   : Timer
  stack     : List StackEntry
  dwell     : Timer
  dwellMet  : Bool
  interval  : Timer
  seconds   : Nat
  deriving DecidableEq, Repr

/-! ## Black start -/

inductive Phase where
  | none | deferred | clearing | waiting
  deriving DecidableEq, Repr

/-- The black-start controller (7.0). `held` is the unnamed start request held by R151; the requests
held by R143 follow from the island state. `surveyEnded` says that the survey has ended with its bus
not yet judged (R136). -/
structure BlackStart where
  island       : Island
  phase        : Phase
  stepPtr      : Option (Fin 16)
  awaiting     : Bool
  limitExpired : Bool
  permitDue    : Bool
  permitPtr    : Option Nat
  held         : Bool
  surveyEnded  : Bool
  survey       : Timer
  clearDown    : Timer
  limit        : Timer
  energize     : Timer
  stepInterval : Timer
  capacityHold : Timer
  pvHold       : Timer
  pvGap        : Timer
  deriving DecidableEq, Repr

/-! ## Modes -/

inductive ModeSource where
  | directive | line
  deriving DecidableEq, Repr

/-- The directive mode is AUTO or HOLD (R158). -/
inductive DirMode where
  | auto | hold
  deriving DecidableEq, Repr

def DirMode.toMode : DirMode → Mode
  | .auto => .auto
  | .hold => .hold

/-- Mode control (8.0). `mntHigh` is the level of the MNT pin. -/
structure ModeControl where
  mode      : Mode
  source    : ModeSource
  dirMode   : DirMode
  lineTimer : Timer
  pulse     : Timer
  train     : Timer
  pulseMark : Bool
  trainCount : Nat
  armed     : Bool
  mntHigh   : Bool
  deriving DecidableEq, Repr

/-! ## Tables, store, directives, notices -/

inductive CommitResult where
  | none
  | done
  | dropped (check index : Nat)
  deriving DecidableEq, Repr

/-- The table bank (9.0). -/
structure TableBank where
  active     : Bank
  shadow     : Bank
  configured : Bool
  pending    : Bool
  last       : CommitResult
  deriving DecidableEq, Repr

inductive StoreCond where
  | valid | saving | invalid
  deriving DecidableEq, Repr

/-- The setting store: its state, whether its image was left whole by a save that ended, the bytes of
the image and its check word (R177, R178). The store state that the part takes at power-up and shows is
INVALID for a whole image that fails the checks, and that image is still in the store (log entry 5). -/
structure Store where
  cond  : StoreCond
  whole : Bool
  image : List Byte
  check : BitVec 16
  deriving DecidableEq, Repr

/-- The directive handler, beside the answer FIFO that `Loop` holds: the overrun count (R182) and the
discard window of R186. `reading` numbers the answers formed, so that the bytes that the layouts
leave open are new at each reading. -/
structure Directives where
  overrun : Nat
  window  : Bool
  reading : Nat
  deriving DecidableEq, Repr

/-- The notice summary: the sixteen flags and their seen marks, in the bit order of 11.2. -/
structure Summary where
  flags : BitVec 16
  seen  : BitVec 16
  deriving DecidableEq, Repr

/-- The whole part, the clock of the model in milliseconds, and the commands that wait. -/
structure State where
  clock   : Nat
  loop    : Loop
  pic     : Picture
  bal     : Balance
  cur     : Curtailment
  seq     : Sequencer
  shed    : Shedding
  bs      : BlackStart
  mode    : ModeControl
  bank    : TableBank
  store   : Store
  dir     : Directives
  sum     : Summary
  pending : List Instr
  deriving DecidableEq, Repr

/-! ## The values of the blocks after reset -/

/-- R23. -/
def PortState.reset : PortState :=
  ⟨.down, 0, none, 0, false, false, false, [], 0, .idle, .none⟩

/-- R23, R24: an invalid entry; its number means nothing. -/
def DupEntry.reset : DupEntry := ⟨false, 0, none⟩

/-- R43. -/
def GenRec.reset : GenRec := ⟨none, none, .lost, none, 0, 0, 0, 0⟩

def PvRec.reset : PvRec := ⟨none, .lost, none⟩

def FdrRec.reset : FdrRec := ⟨none, .lost, none⟩

def BusRec.reset : BusRec := ⟨none, .lost, none, 0, 0, 0⟩

def Picture.reset : Picture :=
  ⟨Vector.replicate 8 GenRec.reset, Vector.replicate 16 PvRec.reset,
   Vector.replicate 32 FdrRec.reset, BusRec.reset, 0, 0⟩

/-- R64: the figures are invalid and 0, with nothing recorded. -/
def Figures.reset : Figures :=
  ⟨false, 0, 0, 0, 0, 0, 0, 0, 0, 0, 0, 0, 0, 0, 0, 0, 0, 0, false, false, none, none, none, false⟩

/-- R64, with the round timer running to `t`. -/
def Balance.reset (t : Nat) : Balance := ⟨some t, Figures.reset, 0, 0, 0, none, 0⟩

/-- R79. -/
def PvJob.reset : PvJob := ⟨.off, .none, none, 0, 0, none, false, false, .routine, none⟩

def Curtailment.reset : Curtailment :=
  ⟨Vector.replicate 16 PvJob.reset, Vector.replicate 4 1000, 0, 0⟩

/-- R109. -/
def GenJob.reset : GenJob :=
  ⟨.notReady, none, .none, 0, 0, none, false, false, .routine, 0, false, none, .stopped⟩

def Sequencer.reset : Sequencer := ⟨Vector.replicate 8 GenJob.reset, []⟩

/-- R133. -/
def FdrJob.reset : FdrJob :=
  ⟨.openOther, .none, 0, 0, none, false, false, .routine, none, false⟩

def Shedding.reset : Shedding :=
  ⟨Vector.replicate 32 FdrJob.reset, Vector.replicate 6 ⟨.idle, none⟩, false, 0, none, [], none,
   false, none, 0⟩

/-- R156, in the given island state; the survey timer runs in SURVEY alone. -/
def BlackStart.reset (island : Island) (survey : Timer) : BlackStart :=
  ⟨island, .none, none, false, false, false, none, false, false, survey, none, none, none, none,
   none, none, none⟩

/-- R166. -/
def ModeControl.reset (mntHigh : Bool) : ModeControl :=
  ⟨.auto, .directive, .auto, none, none, none, false, 0, mntHigh, mntHigh⟩

/-- The loop blocks of R23, but for the notice slot, which is filled as the flags are set. -/
def Loop.reset (strap : Addr) : Loop :=
  ⟨strap, PortState.reset, PortState.reset, Vector.replicate 63 DupEntry.reset,
   Vector.replicate 64 none, 0, [], none, 0⟩

/-- Right after the first power-up of a part whose setting store has never been saved, with
ADDR[5:0] at 0 and MNT released (log entries 1 and 2): UNCONFIGURED, both banks empty, RESTARTED and
STORE_INVALID raised, and the notice slot filled with that summary under the sequence number 0 and
held on both ports (R23, R178, R189). -/
def State.reset : State where
  clock   := 0
  loop    := { Loop.reset 0 with
    notice := some ⟨1, 32, 0, 0x4001#16, .unconfigured, .auto, ⟨true, true⟩⟩, seqCounter := 1 }
  pic     := Picture.reset
  bal     := Balance.reset 200
  cur     := Curtailment.reset
  seq     := Sequencer.reset
  shed    := Shedding.reset
  bs      := BlackStart.reset .unconfigured none
  mode    := ModeControl.reset true
  bank    := ⟨Bank.empty, Bank.empty, false, false, .none⟩
  store   := ⟨.invalid, false, [], 0⟩
  dir     := ⟨0, false, 0⟩
  sum     := ⟨0x4001#16, 0⟩
  pending := []

end Sys2Proof.Machine
end

