-- ==== Sys2Proof/Machine/Bytes.lean ====
section
/-! DEFINITION. Bytes, byte order, the check, and the codes of 11.2. Multi-byte fields are sent most
significant byte first; signed fields are two's complement (chapter 11). -/

namespace Sys2Proof.Machine

/-- One byte of value `n`, its low eight bits. -/
def byte (n : Nat) : Byte := BitVec.ofNat 8 n

/-- A flag is sent as 1 for yes (11.2). -/
def flagByte (b : Bool) : Byte := if b then 1 else 0

/-- A flag is yes for any non-zero value (R26, R170). -/
def isYes (b : Byte) : Bool := b != 0

/-- Two bytes, the more significant first. -/
def be16 (n : Nat) : List Byte := [byte (n / 256), byte n]

/-- Four bytes, the most significant first, of a signed number. -/
def be32 (z : Int) : List Byte :=
  let n := (z % 4294967296).toNat
  [byte (n / 16777216), byte (n / 65536), byte (n / 256), byte n]

/-- A signed number in two bytes. -/
def be16i (z : Int) : List Byte := be16 (z % 65536).toNat

/-- "None" in an index byte is FF hex (11.2). -/
def indexByte : Option Nat → Byte
  | none => 0xFF
  | some n => byte n

/-- FFFF hex stands for an absent standing cap or allotment (11.4). -/
def absent16 : Option Nat → List Byte
  | none => [0xFF, 0xFF]
  | some n => be16 n

/-- Byte `i` of a payload or a record, 0 past its end. -/
def at8 (bs : List Byte) (i : Nat) : Byte := bs.getD i 0

/-- The unsigned two-byte field at `i`. -/
def at16 (bs : List Byte) (i : Nat) : Nat := (at8 bs i).toNat * 256 + (at8 bs (i + 1)).toNat

/-- The signed two-byte field at `i`. -/
def at16i (bs : List Byte) (i : Nat) : Int :=
  let n := at16 bs i
  if n < 32768 then (n : Int) else (n : Int) - 65536

/-! ## The check (R1) -/

/-- One shift of the register of the CRC-16 with generator x^16 + x^12 + x^5 + 1. -/
def crcShift (c : BitVec 16) : BitVec 16 :=
  if c.msb then (c <<< 1) ^^^ 0x1021#16 else c <<< 1

/-- A byte enters the register, its most significant bit first. -/
def crcByte (c : BitVec 16) (b : Byte) : BitVec 16 :=
  let c := c ^^^ (b.setWidth 16 <<< 8)
  crcShift (crcShift (crcShift (crcShift (crcShift (crcShift (crcShift (crcShift c)))))))

/-- The register starts at all ones; the result is not inverted. -/
def crc16 (bs : List Byte) : BitVec 16 := bs.foldl crcByte 0xFFFF#16

/-- Bytes 0 to 5 + n of a frame (11.1). -/
def Frame.body (f : Frame) : List Byte :=
  [f.dst, f.src, f.hop, f.kind, f.seq, byte f.payload.length] ++ f.payload

/-- The frame as it stands between its delimiters: the body, then the check over it. -/
def Frame.bytes (f : Frame) : List Byte := f.body ++ be16 (crc16 f.body).toNat

/-- The address or hop count in the low six bits of a header byte (R190). -/
def lowSix (b : Byte) : Fin 64 := Fin.ofNat 64 b.toNat

/-! ## Codes (11.2) -/

def kindGen : Byte := 0x21
def kindSol : Byte := 0x22
def kindFdr : Byte := 0x23
def kindBus : Byte := 0x24
def kindOrder : Byte := 0x30
def kindDirective : Byte := 0x40
def kindAnswer : Byte := 0x41
def kindNotice : Byte := 0x42

def isReport (k : Byte) : Bool := k == kindGen || k == kindSol || k == kindFdr || k == kindBus

def OrderCode.code : OrderCode → Byte
  | .none => 0 | .start => 1 | .stop => 2 | .unload => 3 | .load => 4 | .closeSync => 5
  | .closeDead => 6 | .open => 7 | .close => 8 | .cap => 9 | .disconnect => 10 | .permit => 11

def Engine.code : Engine → Byte
  | .stopped => 0 | .cranking => 1 | .running => 2 | .fault => 3

def Engine.ofCode (b : Byte) : Option Engine :=
  if b == 0 then some .stopped else if b == 1 then some .cranking
  else if b == 2 then some .running else if b == 3 then some .fault else none

def Breaker.code : Breaker → Byte
  | .open => 0 | .closed => 1

def Breaker.ofCode (b : Byte) : Option Breaker :=
  if b == 0 then some .open else if b == 1 then some .closed else none

def Island.code : Island → Byte
  | .unconfigured => 0 | .survey => 1 | .balancing => 2 | .blackout => 3 | .firstSource => 4
  | .energizing => 5 | .restoring => 6 | .pvReturn => 7 | .abandoned => 8

def Phase.code : Phase → Byte
  | .none => 0 | .deferred => 1 | .clearing => 2 | .waiting => 3

def Mode.code : Mode → Byte
  | .auto => 0 | .hold => 1 | .commissioning => 2

def ModeSource.code : ModeSource → Byte
  | .directive => 0 | .line => 1

def PortCond.code : PortCond → Byte
  | .down => 0 | .up => 1 | .degraded => 2

def Freshness.code : Freshness → Byte
  | .fresh => 0 | .late => 1 | .lost => 2

def GenState.code : GenState → Byte
  | .notReady => 0 | .standby => 1 | .cranking => 2 | .resting => 3 | .warmup => 4 | .hot => 5
  | .syncing => 6 | .online => 7 | .unloading => 8 | .cooldown => 9 | .stopping => 10
  | .lockout => 11 | .unseen => 12

def PvState.code : PvState → Byte
  | .off => 0 | .waiting => 1 | .on => 2

def FdrState.code : FdrState → Byte
  | .closed => 0 | .openOther => 1 | .shedPending => 2 | .shed => 3 | .restoring => 4
  | .heldOpen => 5 | .stuck => 6

def StageCond.code : StageCond → Byte
  | .idle => 0 | .armed => 1 | .fired => 2

/-- STAGE 1 to 6 as 1 to 6. -/
def ShedReason.code : ShedReason → Byte
  | .stage n => byte (n.val + 1) | .sourceLoss => 7 | .deficit => 8

def StoreCond.code : StoreCond → Byte
  | .valid => 0 | .saving => 1 | .invalid => 2

def CommitResult.code : CommitResult → Byte
  | .none => 0 | .done => 1 | .dropped _ _ => 2

def ResultCode.code : ResultCode → Byte
  | .done => 0 | .pending => 1 | .busy => 2 | .guarded => 3 | .length => 4 | .range => 5
  | .invalid => 6 | .state => 7 | .local => 8 | .notPermitted => 9 | .unknown => 10

end Sys2Proof.Machine
end

