-- ==== Sys2Proof/Machine/Params.lean ====
section
/-! DEFINITION. The parameters of table 8 by their names, as the parameter list R192 forms them from
the records of a bank. -/

namespace Sys2Proof.Machine

/-- The value that the record of table 8 at index `i` holds. -/
def Bank.prm (b : Bank) (i : Fin 40) : Nat := b.params[i]

def Bank.qualCount (b : Bank) : Nat := b.prm 0
def Bank.errorWindow (b : Bank) : Nat := b.prm 1
def Bank.errorLimit (b : Bank) : Nat := b.prm 2
def Bank.lateTimeout (b : Bank) : Nat := b.prm 3
def Bank.lostTimeout (b : Bank) : Nat := b.prm 4
def Bank.hopCount (b : Bank) : Nat := b.prm 5
/-- Supervisory address 1 stands in the high byte of record 6. -/
def Bank.super1 (b : Bank) : Addr := Fin.ofNat 64 (b.prm 6 / 256)
/-- Supervisory address 2 stands in the low byte of record 6. -/
def Bank.super2 (b : Bank) : Addr := Fin.ofNat 64 (b.prm 6 % 256)
def Bank.deadThreshold (b : Bank) : Nat := b.prm 7
def Bank.liveThreshold (b : Bank) : Nat := b.prm 8
def Bank.settleBand (b : Bank) : Nat := b.prm 9
def Bank.roundPeriod (b : Bank) : Nat := b.prm 10
def Bank.rampUp (b : Bank) : Nat := b.prm 11
def Bank.reserveBase (b : Bank) : Nat := b.prm 12
def Bank.cover (b : Bank) : Nat := b.prm 13
def Bank.startDwell (b : Bank) : Nat := b.prm 14
def Bank.stopMargin (b : Bank) : Nat := b.prm 15
def Bank.stopDwell (b : Bank) : Nat := b.prm 16
def Bank.deficitDwell (b : Bank) : Nat := b.prm 17
def Bank.capDeadband (b : Bank) : Nat := b.prm 18
def Bank.resendInterval (b : Bank) : Nat := b.prm 19
def Bank.resendLimit (b : Bank) : Nat := b.prm 20
def Bank.parallelStarts (b : Bank) : Nat := b.prm 21
def Bank.tripThreshold (b : Bank) : Nat := b.prm 22
def Bank.pvCredit (b : Bank) : Nat := b.prm 23
def Bank.shedConfirm (b : Bank) : Nat := b.prm 24
def Bank.recoverBand (b : Bank) : Nat := b.prm 25
def Bank.recoverDwell (b : Bank) : Nat := b.prm 26

/-- The restore dwell and the restore interval are formed from an extension and a low part, and held
between 1000 and 600000 ms at each use (R192). -/
def extendedMs (ext low : Nat) : Nat := min 600000 (max 1000 (ext * 65536 + low))

def Bank.restoreDwell (b : Bank) : Nat := extendedMs (b.prm 29 / 256) (b.prm 27)
def Bank.restoreInterval (b : Bank) : Nat := extendedMs (b.prm 29 % 256) (b.prm 28)
def Bank.coldTime (b : Bank) : Nat := b.prm 30
/-- Black start enabled: 0 is no, 1 is yes. -/
def Bank.blackStartEnabled (b : Bank) : Bool := b.prm 31 != 0
def Bank.surveyTime (b : Bank) : Nat := b.prm 32
def Bank.clearDownTime (b : Bank) : Nat := b.prm 33
def Bank.blackStartLimit (b : Bank) : Nat := b.prm 34
def Bank.energizeTime (b : Bank) : Nat := b.prm 35
def Bank.stepInterval (b : Bank) : Nat := b.prm 36
def Bank.pvHold (b : Bank) : Nat := b.prm 37
def Bank.pvGap (b : Bank) : Nat := b.prm 38
def Bank.modeHold (b : Bank) : Nat := b.prm 39

/-- The active bank, which the jobs read (R167). -/
def State.act (s : State) : Bank := s.bank.active

end Sys2Proof.Machine
end

