-- ==== Sys2Proof/Machine/Ops.lean ====
section
/-! DEFINITION. Operations that several blocks share: vectors of records, the clock and its timers,
the station table, the outbound entries with their headers and marks, and the order table. -/

namespace Sys2Proof.Machine

/-! ## Vectors of records -/

/-- `v` with `x` at `i`. -/
def put {α : Type} {n : Nat} (v : Vector α n) (i : Fin n) (x : α) : Vector α n :=
  v.set i.val x i.isLt

/-- `v` with `f` applied to the record at `i`. -/
def upd {α : Type} {n : Nat} (v : Vector α n) (i : Fin n) (f : α → α) : Vector α n :=
  put v i (f v[i])

/-- Acts at each index of a list of indices, in its order. -/
def forEach {ι σ : Type} (is : List ι) (f : ι → σ → σ) (s : σ) : σ :=
  is.foldl (fun s i => f i s) s

/-- The gensets, PV blocks, feeders, stages, steps and addresses, in ascending order. -/
def gensets : List (Fin 8) := List.finRange 8
def pvBlocks : List (Fin 16) := List.finRange 16
def feeders : List (Fin 32) := List.finRange 32
def stageNumbers : List (Fin 6) := List.finRange 6
def stepNumbers : List (Fin 16) := List.finRange 16
def addresses : List Addr := List.finRange 64

/-- The member of a list with the least value of `f`, the first of them where several have it. -/
def leastBy {ι : Type} (f : ι → Nat) : List ι → Option ι
  | [] => none
  | i :: is =>
    match leastBy f is with
    | none => some i
    | some j => if f j < f i then some j else some i

/-- The member of a list with the greatest value of `f`, the first of them where several have it. -/
def greatestBy {ι : Type} (f : ι → Nat) : List ι → Option ι
  | [] => none
  | i :: is =>
    match greatestBy f is with
    | none => some i
    | some j => if f i < f j then some j else some i

/-! ## Clock and timers -/

/-- A timer started now with a period of `ms` milliseconds. -/
def State.timer (s : State) (ms : Nat) : Timer := some (s.clock + ms)

/-- The expiry of a timer shows that its period has passed: the clock stands at the timer's time, or
later where it has passed it already (log entry 3). -/
def State.reach (s : State) (t : Timer) : State :=
  match t with
  | none => s
  | some d => { s with clock := max s.clock d }

/-! ## Records by unit -/

def State.gen (s : State) (g : Fin 8) : GenJob := s.seq.jobs[g]
def State.genRec (s : State) (g : Fin 8) : GenRec := s.pic.gen[g]
def State.genCfg (s : State) (g : Fin 8) : GenCfg := s.act.genset[g]
def State.pv (s : State) (b : Fin 16) : PvJob := s.cur.jobs[b]
def State.pvRec (s : State) (b : Fin 16) : PvRec := s.pic.pv[b]
def State.pvCfg (s : State) (b : Fin 16) : PvCfg := s.act.pv[b]
def State.fdr (s : State) (f : Fin 32) : FdrJob := s.shed.jobs[f]
def State.fdrRec (s : State) (f : Fin 32) : FdrRec := s.pic.fdr[f]
def State.fdrCfg (s : State) (f : Fin 32) : FdrCfg := s.act.feeder[f]
def State.island (s : State) : Island := s.bs.island

def State.modGen (s : State) (g : Fin 8) (f : GenJob → GenJob) : State :=
  { s with seq := { s.seq with jobs := upd s.seq.jobs g f } }

def State.modPv (s : State) (b : Fin 16) (f : PvJob → PvJob) : State :=
  { s with cur := { s.cur with jobs := upd s.cur.jobs b f } }

def State.modFdr (s : State) (i : Fin 32) (f : FdrJob → FdrJob) : State :=
  { s with shed := { s.shed with jobs := upd s.shed.jobs i f } }

def State.modGenRec (s : State) (g : Fin 8) (f : GenRec → GenRec) : State :=
  { s with pic := { s.pic with gen := upd s.pic.gen g f } }

def State.modPvRec (s : State) (b : Fin 16) (f : PvRec → PvRec) : State :=
  { s with pic := { s.pic with pv := upd s.pic.pv b f } }

def State.modFdrRec (s : State) (i : Fin 32) (f : FdrRec → FdrRec) : State :=
  { s with pic := { s.pic with fdr := upd s.pic.fdr i f } }

def State.modBusRec (s : State) (f : BusRec → BusRec) : State :=
  { s with pic := { s.pic with bus := f s.pic.bus } }

/-! ## The station table (2.1) -/

/-- The first address whose station record names the unit. -/
def Bank.stationOf (b : Bank) (u : UnitRef) : Option Addr :=
  addresses.find? (fun a => b.station[a] == some u)

/-- Whether a unit is configured: its flag in its own table, or for the bus meter its mapping. -/
def Bank.configured (b : Bank) : UnitRef → Bool
  | .genset g => b.genset[g].configured
  | .pv i => b.pv[i].configured
  | .feeder f => b.feeder[f].configured
  | .busmeter => (b.stationOf .busmeter).isSome

/-- The configured unit that an address is mapped to. -/
def Bank.mapped (b : Bank) (a : Addr) : Option UnitRef :=
  match b.station[a] with
  | none => none
  | some u => if b.configured u then some u else none

def Freshness.isLost : Freshness → Bool
  | .lost => true
  | .fresh | .late => false

/-- The part's own address; ADDR[5:0] at 63 gives none (R23). -/
def State.ownAddr (s : State) : Option Addr :=
  if s.loop.strap.val = 63 then none else some s.loop.strap

/-! ## Ports -/

def State.port (s : State) : Port → PortState
  | .e => s.loop.portE
  | .w => s.loop.portW

def State.modPort (s : State) (p : Port) (f : PortState → PortState) : State :=
  match p with
  | .e => { s with loop := { s.loop with portE := f s.loop.portE } }
  | .w => { s with loop := { s.loop with portW := f s.loop.portW } }

def PortState.isDown (x : PortState) : Bool := x.cond == .down

/-- The transmitter, where it is free, starts the oldest waiting frame (R10). -/
def PortState.startForward (x : PortState) : PortState :=
  match x.tx, x.buffer with
  | .idle, _ :: _ => { x with tx := .forwarding }
  | _, _ => x

/-- Cuts an insertion in progress with the abort delimiter; the transmitter is then free for the
waiting frames (R18). -/
def PortState.abort (x : PortState) : PortState :=
  match x.tx with
  | .inserting _ _ _ => { x with tx := .idle, lastEnd := .aborted }.startForward
  | .idle | .forwarding => x

/-! ## Pending marks (R15) -/

def Marks.on (m : Marks) : Port → Bool
  | .e => m.e
  | .w => m.w

def Marks.clear (m : Marks) : Port → Marks
  | .e => { m with e := false }
  | .w => { m with w := false }

def Marks.only : Port → Marks
  | .e => ⟨true, false⟩
  | .w => ⟨false, true⟩

def Marks.both : Marks := ⟨true, true⟩

/-- No pending mark: the entry, or the segment, is done. -/
def Marks.isDone (m : Marks) : Bool := !m.e && !m.w

/-- The marks of new content: each port that is UP or DEGRADED, or both where both are DOWN. -/
def State.newMarks (s : State) : Marks :=
  if s.loop.portE.isDown && s.loop.portW.isDown then Marks.both
  else ⟨!s.loop.portE.isDown, !s.loop.portW.isDown⟩

/-- Port `p` enters DOWN, the other port being DOWN as well or not. -/
def Marks.portDown (m : Marks) (p : Port) (otherDown : Bool) : Marks :=
  if m.on p && (m.clear p).isDone then
    if otherDown then Marks.both else Marks.only p.other
  else m.clear p

/-- Port `p` leaves DOWN while the other port is still DOWN: a held entry keeps the mark on `p`. -/
def Marks.portUp (m : Marks) (p : Port) : Marks :=
  if m.e && m.w then Marks.only p else m

/-- Acts on the marks of every outbound entry. -/
def Loop.mapMarks (l : Loop) (f : Marks → Marks) : Loop :=
  { l with
    orders := forEach addresses (fun a v =>
      match v[a] with
      | none => v
      | some o => put v a (some { o with marks := f o.marks })) l.orders
    answers := l.answers.map fun x =>
      { x with segs := x.segs.map fun g => { g with marks := f g.marks } }
    notice := l.notice.map fun n => { n with marks := f n.marks } }

/-! ## Headers and insertions in progress -/

/-- The sequence counter advances with each header assigned (R14). -/
def State.nextSeq (s : State) : State :=
  { s with loop := { s.loop with seqCounter := s.loop.seqCounter + 1 } }

/-- Whether a reference is to the order slot of `a`, to the answer FIFO's head, or to the notice. -/
def EntryRef.same : EntryRef → EntryRef → Bool
  | .order a, .order b => a == b
  | .answer _, .answer _ => true
  | .notice, .notice => true
  | .order _, .answer _ | .order _, .notice | .answer _, .order _ | .answer _, .notice
  | .notice, .order _ | .notice, .answer _ => false

/-- An insertion of the entry in progress goes on, but its completion will change nothing. -/
def Tx.disown (t : Tx) (r : EntryRef) : Tx :=
  match t with
  | .inserting q f stale => .inserting q f (stale || q.same r)
  | .idle => .idle
  | .forwarding => .forwarding

def Loop.disown (l : Loop) (r : EntryRef) : Loop :=
  { l with
    portE := { l.portE with tx := l.portE.tx.disown r }
    portW := { l.portW with tx := l.portW.tx.disown r } }

/-- The order code that an ORDER frame carries. -/
def Frame.orderCode (f : Frame) : Byte := at8 f.payload 0

/-- Cuts an insertion of an ORDER frame that `sel` names by its slot's address and its code. -/
def PortState.cutOrder (x : PortState) (sel : Addr → Byte → Bool) : PortState :=
  match x.tx with
  | .inserting (.order a) f _ => if sel a f.orderCode then x.abort else x
  | _ => x

/-- Cuts such an insertion on each port. -/
def State.cutOrders (s : State) (sel : Addr → Byte → Bool) : State :=
  { s with loop := { s.loop with
      portE := s.loop.portE.cutOrder sel, portW := s.loop.portW.cutOrder sel } }

/-! ## The order table (1.7) -/

def State.slot (s : State) (a : Addr) : Option OrderSlot := s.loop.orders[a]

def OrderClass.higher : OrderClass → OrderClass → OrderClass
  | .urgent, _ => .urgent
  | .routine, c => c

/-- The slot that an order placed at `a` makes: R19 where the slot was empty, R20 where it was
pending. -/
def State.placedSlot (s : State) (a : Addr) (code : OrderCode) (tag : Byte) (cap : Nat)
    (cls : OrderClass) : OrderSlot :=
  match s.slot a with
  | none => ⟨cls, code, tag, cap, s.act.hopCount, s.loop.seqCounter, s.loop.ageCounter, s.newMarks⟩
  | some o =>
    ⟨o.cls.higher cls, code, tag, cap, s.act.hopCount, s.loop.seqCounter, o.age, s.newMarks⟩

/-- Places an order in the slot of a station (R19, R20). -/
def State.place (s : State) (a : Addr) (code : OrderCode) (tag : Byte) (cap : Nat)
    (cls : OrderClass) : State :=
  let age := if (s.slot a).isNone then s.loop.ageCounter + 1 else s.loop.ageCounter
  { s with loop := { s.loop.disown (.order a) with
      orders := put s.loop.orders a (some (s.placedSlot a code tag cap cls))
      ageCounter := age
      seqCounter := s.loop.seqCounter + 1 } }

/-- Empties the slot of a station, whatever its marks (R21). -/
def State.emptySlot (s : State) (a : Addr) : State :=
  { s with loop := { s.loop.disown (.order a) with orders := put s.loop.orders a none } }

/-- Places an order under the station address of a unit. -/
def State.placeFor (s : State) (u : UnitRef) (code : OrderCode) (tag : Byte) (cap : Nat)
    (cls : OrderClass) : State :=
  match s.act.stationOf u with
  | none => s
  | some a => s.place a code tag cap cls

/-- Empties the order slot of a unit's station. -/
def State.emptyFor (s : State) (u : UnitRef) : State :=
  match s.act.stationOf u with
  | none => s
  | some a => s.emptySlot a

/-- Whether the slot of a station holds an order of one of the codes. -/
def State.holdsOne (s : State) (codes : List OrderCode) (a : Addr) : Bool :=
  (s.slot a).any fun o => codes.contains o.code

/-- Empties the slots that hold one of the codes, and cuts the insertions of such slots (R72, R105, R127),
also one that still sends an older content of such a slot. An insertion that carries one of the codes is
cut too where its slot has lost that content, by the law of R165: DEDUCED (log entry 11). -/
def State.withdraw (s : State) (codes : List OrderCode) : State :=
  forEach addresses (fun a s => if s.holdsOne codes a then s.emptySlot a else s)
    (s.cutOrders fun a c => codes.any (fun k => k.code == c) || s.holdsOne codes a)

/-! ## Standing orders -/

/-- Whether an echo shows an order taken: its code and its tag are the standing order's. -/
def echoMatches (order : OrderCode) (tag echoCode echoTag : Byte) : Bool :=
  order.code == echoCode && tag == echoTag

/-- Whether the resend interval has passed since the last send (R75, R103, R112). A time of last send
that has been cleared bars nothing (R105). -/
def State.resendDue (s : State) : Option Nat → Bool
  | none => true
  | some t => t + s.act.resendInterval ≤ s.clock

end Sys2Proof.Machine
end

