-- ==== Sys2Proof/Machine/Flags.lean ====
section
/-! DEFINITION. The sixteen notice flags and the notice slot (10.4). -/

namespace Sys2Proof.Machine

/-- The notice flags, in the order of the table of 10.4. -/
inductive Flag where
  | restarted | portChange | ufStageFired | sourceLossShed | deficitShed | shedShort | feederStuck
  | startFailed | lockout | orderUnanswered | islandStateChange | bsAbandoned | restoreSkipped
  | commitDone | storeInvalid | modeChange
  deriving DecidableEq, Repr

/-- Bit 0 for RESTARTED up to bit 15 for MODE_CHANGE (11.2). -/
def Flag.bit : Flag → Nat
  | .restarted => 0 | .portChange => 1 | .ufStageFired => 2 | .sourceLossShed => 3
  | .deficitShed => 4 | .shedShort => 5 | .feederStuck => 6 | .startFailed => 7 | .lockout => 8
  | .orderUnanswered => 9 | .islandStateChange => 10 | .bsAbandoned => 11
  | .restoreSkipped => 12 | .commitDone => 13 | .storeInvalid => 14 | .modeChange => 15

/-- The word with this flag alone. -/
def Flag.word (f : Flag) : BitVec 16 := 1#16 <<< f.bit

def Summary.has (n : Summary) (f : Flag) : Bool := n.flags.getLsbD f.bit
def Summary.isSeen (n : Summary) (f : Flag) : Bool := n.seen.getLsbD f.bit

/-- The flag set and its seen mark cleared (R187). -/
def Summary.setFlag (n : Summary) (f : Flag) : Summary :=
  ⟨n.flags ||| f.word, n.seen &&& ~~~f.word⟩

/-- The destination of notices: supervisory address 1, which is 63, all stations, where the parameter
is 63 (1.5). -/
def State.noticeDst (s : State) : Addr := s.act.super1

/-- The notice slot takes the summary, island state and mode as they stand, with a new header and new
marks (R14, R15, R22). -/
def State.fillNotice (s : State) : State :=
  { s with loop := { s.loop.disown .notice with
      notice := some ⟨s.noticeDst, s.act.hopCount, s.loop.seqCounter, s.sum.flags, s.bs.island,
        s.mode.mode, s.newMarks⟩
      seqCounter := s.loop.seqCounter + 1 } }

/-- A block raises a notice flag (R187). -/
def State.raise (s : State) (f : Flag) : State :=
  let wasClear := !s.sum.has f
  let s := { s with sum := s.sum.setFlag f }
  if wasClear || s.loop.notice.isSome then s.fillNotice else s

/-- READ STATUS marks every set flag seen (R183). -/
def Summary.markSeen (n : Summary) : Summary := ⟨n.flags, n.seen ||| n.flags⟩

/-- ACK NOTICES clears each flag that is in the mask, set and seen, with its seen mark (R188). -/
def Summary.acknowledge (n : Summary) (mask : BitVec 16) : Summary :=
  let gone := mask &&& n.flags &&& n.seen
  ⟨n.flags &&& ~~~gone, n.seen &&& ~~~gone⟩

end Sys2Proof.Machine
end

