-- ==== Sys2Proof/Machine/Curtail.lean ====
section
/-! DEFINITION. The curtailment allocator: PV block states, allocation by rank, standing caps, the
source-loss release (chapter 4). -/

namespace Sys2Proof.Machine

/-! ## The commandable blocks and their sums (R47, R48) -/

/-- S_cmd: the configured blocks that are ON and FRESH or LATE. -/
def State.inScmd (s : State) (b : Fin 16) : Bool :=
  (s.pvCfg b).configured && (s.pv b).state == .on && !(s.pvRec b).fresh.isLost

/-- S_lost: the configured blocks that are ON and LOST. -/
def State.inSlost (s : State) (b : Fin 16) : Bool :=
  (s.pvCfg b).configured && (s.pv b).state == .on && (s.pvRec b).fresh.isLost

/-- A block's clamped output, 0 where absent. -/
def State.pvOut (s : State) (b : Fin 16) : Nat :=
  match (s.pvRec b).vals with
  | none => 0
  | some v => v.out

/-- A block's clamped available, 0 where absent. -/
def State.pvAvail (s : State) (b : Fin 16) : Nat :=
  match (s.pvRec b).vals with
  | none => 0
  | some v => v.avail

/-- A quantity summed over the units of a list that belong to a set. -/
def sumOver {ι : Type} (is : List ι) (p : ι → Bool) (f : ι → Nat) : Nat :=
  ((is.filter p).map f).sum

/-- P_S as it stands: the clamped output summed over S_cmd. -/
def State.sumPs (s : State) : Nat := sumOver pvBlocks s.inScmd s.pvOut

/-- A as it stands: the clamped available summed over S_cmd. -/
def State.sumA (s : State) : Nat := sumOver pvBlocks s.inScmd s.pvAvail

/-! ## Standing orders (R74) -/

/-- A standing order set to NONE by R65 places nothing; the send count becomes 0, both marks are cleared, and
the block's order slot is emptied. -/
def State.pvNone (s : State) (b : Fin 16) : State :=
  (s.modPv b fun j =>
    { j with order := .none, cap := none, sendCount := 0, taken := false,
             unanswered := false }).emptyFor (.pv b)

/-- A new standing order: the tag advances, the order is placed, the send is recorded. -/
def State.pvOrder (s : State) (b : Fin 16) (code : OrderCode) (cap : Option Nat)
    (cls : OrderClass) : State :=
  let tag := (s.pv b).tag + 1
  (s.modPv b fun j =>
    { j with order := code, cap := cap, tag := tag, sendCount := 1, taken := false,
             unanswered := false, cls := cls, lastSend := some s.clock }).placeFor
    (.pv b) code tag (cap.getD 0) cls

def State.setPvState (s : State) (b : Fin 16) (x : PvState) : State :=
  s.modPv b fun j => { j with state := x }

/-! ## Reports (R65, R67, R75) -/

/-- R65: the connected flag of a report against the block's state. -/
def State.pvConnected (s : State) (b : Fin 16) (connected : Bool) : State :=
  match (s.pv b).state, (s.pv b).order, connected with
  | .off, .none, true => (s.setPvState b .on).modPv b fun j => { j with cap := none }
  | .waiting, _, true => (s.setPvState b .on).pvNone b
  | .on, _, false => (s.setPvState b .off).pvNone b
  | _, _, _ => s

/-- The permit that takes a block to WAITING (R67). -/
def State.pvPermit (s : State) (b : Fin 16) : State :=
  (s.setPvState b .waiting).pvOrder b .permit none .routine

/-- The permit on a latched echo (R67), judged on the state that R65 has left. -/
def State.pvLatched (s : State) (b : Fin 16) (v : PvValues) : State :=
  if s.bs.island == .balancing && s.mode.mode != .commissioning
      && (s.pv b).state == .off && (s.pv b).order == .none
      && v.echoCode == OrderCode.disconnect.code then s.pvPermit b
  else s

/-- Whether an echo shows the standing order of a block taken: for CAP, the echoed cap too. -/
def PvJob.echoed (j : PvJob) (v : PvValues) : Bool :=
  echoMatches j.order j.tag v.echoCode v.echoTag && (j.order != .cap || j.cap == some v.echoCap)

/-- R75. -/
def State.pvEcho (s : State) (b : Fin 16) (v : PvValues) : State :=
  let j := s.pv b
  if j.order == .none then s
  else if j.echoed v then
    s.modPv b fun j => { j with taken := true, unanswered := false, sendCount := 0 }
  else if j.taken || j.unanswered || !s.resendDue j.lastSend then s
  else if j.sendCount < s.act.resendLimit then
    if s.mode.mode == .commissioning then s
    else
      (s.modPv b fun j =>
        { j with sendCount := j.sendCount + 1, lastSend := some s.clock }).placeFor
        (.pv b) j.order j.tag (j.cap.getD 0) j.cls
  else (s.modPv b fun j => { j with unanswered := true }).raise .orderUnanswered

/-- A tapped SOL report at the allocator. R65 does not act in SURVEY. -/
def State.curTap (s : State) (b : Fin 16) : State :=
  match (s.pvRec b).vals with
  | none => s
  | some v =>
    let s := if s.bs.island == .survey then s else s.pvConnected b v.connected
    (s.pvLatched b v).pvEcho b v

/-! ## Requests of the black-start controller -/

/-- The clear-down at the allocator (R66). -/
def State.pvClearDown (s : State) : State :=
  forEach pvBlocks (fun b s =>
    if (s.pvCfg b).configured then
      (s.setPvState b .off).pvOrder b .disconnect none .urgent
    else s) s

/-- A permit request: taken for a block in OFF, dropped otherwise (R67). -/
def State.pvPermitRequest (s : State) (b : Fin 16) : State :=
  if (s.pv b).state == .off then s.pvPermit b else s

/-- Survey adoption at the allocator (R138). Tags are kept. That the send count becomes 0 and both marks are
cleared R74 says of a NONE set by R65 alone, and R138 is silent: as there (DEDUCED, log entry 42). -/
def State.pvAdopt (s : State) : State :=
  forEach pvBlocks (fun b s =>
    if (s.pvCfg b).configured then
      let connected := match (s.pvRec b).vals with
        | none => false
        | some v => v.connected
      (s.setPvState b (if connected then .on else .off)).pvNone b
    else s) s

/-! ## Allocation (R68 to R73) -/

/-- What the walk leaves: the fractions of ranks 0 to 3. -/
structure Fractions where
  f0 : Nat
  f1 : Nat
  f2 : Nat
  f3 : Nat
  deriving DecidableEq, Repr

/-- The fraction of a rank with available `a` when `k` is still to be curtailed (R68). -/
def rankFraction (a k : Nat) : Nat :=
  if a = 0 then 1000
  else if k = 0 then 1000
  else if a ≤ k then 0
  else 1000 * (a - k) / a

/-- What is still to be curtailed after the rank (R68). -/
def rankRest (a k : Nat) : Nat :=
  if a = 0 then k else k - a

/-- The walk of the ranks in the order 3, 2, 1, 0. -/
def walkRanks (a0 a1 a2 a3 k : Nat) : Fractions :=
  let k2 := rankRest a3 k
  let k1 := rankRest a2 k2
  let k0 := rankRest a1 k1
  ⟨rankFraction a0 k0, rankFraction a1 k1, rankFraction a2 k2, rankFraction a3 k⟩

def Fractions.at (f : Fractions) (rank : Nat) : Nat :=
  if rank = 0 then f.f0 else if rank = 1 then f.f1 else if rank = 2 then f.f2 else f.f3

/-- A_r: the available of the members of S_cmd of rank `r`; a rank above 3 counts as 3. -/
def State.rankAvail (s : State) (r : Nat) : Nat :=
  sumOver pvBlocks (fun b => s.inScmd b && min 3 (s.pvCfg b).rank == r) s.pvAvail

/-- The fractions of an allocation of X_cmd out of A. -/
def State.rankFractions (s : State) (xCmd a : Int) : Fractions :=
  walkRanks (s.rankAvail 0) (s.rankAvail 1) (s.rankAvail 2) (s.rankAvail 3) (a - xCmd).toNat

/-- The allotment of a member of S_cmd (R69). -/
def State.allotmentOf (s : State) (f : Fractions) (b : Fin 16) : Nat :=
  s.pvAvail b * f.at (s.pvCfg b).rank / 1000

/-- The allotment sum over S_cmd (R69). -/
def State.allotmentSum (s : State) (f : Fractions) : Nat :=
  sumOver pvBlocks s.inScmd (s.allotmentOf f)

/-- Whether a target is taken in place of a standing cap (R70). -/
def takesTarget (cap : Option Nat) (target rating deadband : Nat) : Bool :=
  match cap with
  | none => true
  | some c =>
    if target < c then true
    else if c < target then target == rating || decide (c + deadband ≤ target)
    else false

/-- The target cap of a member of S_cmd (R70). -/
def State.targetOf (s : State) (f : Fractions) (b : Fin 16) : Nat :=
  if f.at (s.pvCfg b).rank < 1000 then s.allotmentOf f b else (s.pvCfg b).rating

/-- R70 for one member of S_cmd. -/
def State.applyTarget (s : State) (f : Fractions) (b : Fin 16) : State :=
  let target := s.targetOf f b
  if takesTarget (s.pv b).cap target (s.pvCfg b).rating s.act.capDeadband then
    s.pvOrder b .cap (some target) .routine
  else s

/-- The allocation record is replaced as a whole (R73). -/
def State.recordAllocation (s : State) (f : Fractions) (a : Int) : State :=
  let sum : Int := s.allotmentSum f
  let t := forEach pvBlocks (fun b t =>
    t.modPv b fun j =>
      { j with allotment := if s.inScmd b then some (s.allotmentOf f b) else none }) s
  { t with cur := { t.cur with
      fractions := #v[f.f0, f.f1, f.f2, f.f3], sum := sum, u := a - sum } }

/-- The allocation of a computed round; in COMMISSIONING it is recorded only (R72). -/
def State.allocate (s : State) (xCmd a : Int) : State :=
  let f := s.rankFractions xCmd a
  let t := s.recordAllocation f a
  if s.mode.mode == .commissioning then t
  else forEach pvBlocks (fun b t => if s.inScmd b then t.applyTarget f b else t) t

/-- U as the allocator offers it: 0 while the last round figures are invalid (R73). -/
def State.offeredU (s : State) : Int := if s.bal.fig.valid then s.cur.u else 0

/-! ## The source-loss release and the mode -/

/-- R76 for one block in ON. -/
def State.uncap (s : State) (b : Fin 16) : State :=
  let rating := (s.pvCfg b).rating
  if (s.pv b).order == .cap && (s.pv b).cap == some rating then s
  else s.pvOrder b .cap (some rating) .urgent

/-- The source-loss release: every ON block is uncapped, but in COMMISSIONING nothing is placed (R76);
the engine sets the ramp base to A (R52). -/
def State.sourceLossRelease (s : State) : State :=
  let t :=
    if s.mode.mode == .commissioning then s
    else forEach pvBlocks
      (fun b s => if (s.pvCfg b).configured && (s.pv b).state == .on then s.uncap b else s) s
  { t with bal := { t.bal with rampBase := s.sumA } }

/-- The mode becomes COMMISSIONING (R72). -/
def State.curEnterCommissioning (s : State) : State := s.withdraw [.cap, .disconnect, .permit]

end Sys2Proof.Machine
end

