-- ==== Sys2Proof/Machine/Shed.lean ====
section
/-! DEFINITION. The shedding unit: feeder states and standing orders, underfrequency stages, the
shedding of a demand, the shed stack, restoration (chapter 6). -/

namespace Sys2Proof.Machine

/-! ## Reading a feeder's record -/

/-- The load of a feeder: the clamped load of its last tapped report, 0 where absent (R110). -/
def State.fdrLoad (s : State) (i : Fin 32) : Nat :=
  match (s.fdrRec i).vals with
  | none => 0
  | some v => v.load

/-- Whether the last tapped report of a feeder shows its breaker so. -/
def State.fdrShows (s : State) (i : Fin 32) (b : Breaker) : Bool :=
  match (s.fdrRec i).vals with
  | none => false
  | some v => v.breaker == b

/-! ## Standing orders (R111) -/

/-- A standing order set to NONE places nothing and empties the feeder's order slot. -/
def State.fdrNone (s : State) (i : Fin 32) : State :=
  (s.modFdr i fun j =>
    { j with order := .none, sendCount := 0, taken := false, unanswered := false }).emptyFor
    (.feeder i)

/-- A new standing order: the tag advances, the order is placed, the send is recorded. -/
def State.fdrOrder (s : State) (i : Fin 32) (code : OrderCode) (cls : OrderClass) : State :=
  let tag := (s.fdr i).tag + 1
  (s.modFdr i fun j =>
    { j with order := code, tag := tag, sendCount := 1, taken := false, unanswered := false,
             cls := cls, lastSend := some s.clock }).placeFor (.feeder i) code tag 0 cls

/-- A feeder changes its state. Its open-confirmed mark, which has a meaning in HELD_OPEN alone, keeps its
value on leaving that state, where no rule clears it (DEDUCED, log entry 34). -/
def State.setFdrState (s : State) (i : Fin 32) (x : FdrState) : State :=
  s.modFdr i fun j => { j with state := x }

def State.stopConfirm (s : State) (i : Fin 32) : State :=
  s.modFdr i fun j => { j with confirm := none }

def State.startConfirm (s : State) (i : Fin 32) : State :=
  s.modFdr i fun j => { j with confirm := s.timer s.act.shedConfirm }

/-- The feeder's entry is taken out of the stack; the entries above and below keep their order. -/
def State.unstack (s : State) (i : Fin 32) : State :=
  { s with shed := { s.shed with stack := s.shed.stack.filter fun e => e.feeder != i } }

/-! ## Meeting a demand (R120 to R123) -/

/-- The active shed order: table 5 from record 0 to the first end marker. -/
def Bank.shedList (b : Bank) : List (Fin 32) :=
  (b.shedOrder.toList.takeWhile Option.isSome).filterMap id

/-- The in-flight total: the loads at shed of the entries whose feeders are SHED_PENDING (R120). -/
def State.inFlight (s : State) : Nat :=
  ((s.shed.stack.filter fun e => (s.fdr e.feeder).state == .shedPending).map (·.load)).sum

/-- A walk takes a feeder: urgent OPEN, confirm timer, stack entry, and its load joins shed_event
while a UF event is active (R122). -/
def State.takeFeeder (s : State) (i : Fin 32) (reason : ShedReason) : State :=
  let load := s.fdrLoad i
  let s := ((s.setFdrState i .shedPending).fdrOrder i .open .urgent).startConfirm i
  { s with shed := { s.shed with
      stack := ⟨i, load, reason, s.shed.seconds⟩ :: s.shed.stack
      shedEvent := if s.shed.ufActive then s.shed.shedEvent + load else s.shed.shedEvent } }

/-- What a walk can take: a CLOSED feeder that is not LOST. -/
def State.canShed (s : State) (i : Fin 32) : Bool :=
  (s.fdr i).state == .closed && !(s.fdrRec i).fresh.isLost

/-- The end of a walk: SHED_SHORT where the sum is below the demand, DEFICIT_SHED where a walk with
that reason has taken a feeder (R122). The rule does not say when in the walk DEFICIT_SHED is raised: it is
raised last, after SHED_SHORT (DESIGN CHOICE, log entry 37). -/
def State.endWalk (s : State) (reason : ShedReason) (short took : Bool) : State :=
  let s := if short then s.raise .shedShort else s
  if took && reason == .deficit then s.raise .deficitShed else s

/-- The walk down the shed order, with the sum of the loads taken so far. -/
def walk (q : Int) (reason : ShedReason) : List (Fin 32) → Int → Bool → State → State
  | [], sum, took, s => s.endWalk reason (sum < q) took
  | i :: is, sum, took, s =>
    if q ≤ sum then s.endWalk reason false took
    else if s.canShed i then walk q reason is (sum + s.fdrLoad i) true (s.takeFeeder i reason)
    else walk q reason is sum took s

/-- A demand that is met whole (a stage demand, a re-shed). -/
def State.demand (s : State) (q : Int) (reason : ShedReason) : State :=
  walk q reason s.act.shedList 0 false s

/-- A demand that the in-flight total reduces (a source loss, a deficit); nothing is shed for a
remainder of 0 or below (R120). -/
def State.reducedDemand (s : State) (q : Int) (reason : ShedReason) : State :=
  if q - s.inFlight ≤ 0 then s else s.demand (q - s.inFlight) reason

/-! ## Stages and the UF event -/

/-- The amounts of the enabled stages up to record `n` of table 6 (R116). -/
def Bank.stageAmounts (b : Bank) (n : Fin 6) : Nat :=
  ((stageNumbers.filter fun k => k ≤ n && b.stages[k].enabled).map fun k => b.stages[k].amount).sum

/-- An ARMED stage fires (R116). -/
def State.fireStage (s : State) (n : Fin 6) : State :=
  let s := { s with shed := { s.shed with stages := put s.shed.stages n ⟨.fired, none⟩ } }
  let s := s.raise .ufStageFired
  let q : Int := (s.act.stageAmounts n : Int) - s.shed.shedEvent
  if q ≤ 0 then s else s.demand q (.stage n)

/-- Every stage IDLE with its delay timer cancelled. -/
def idleStages : Vector StageState 6 := Vector.replicate 6 ⟨.idle, none⟩

/-- The recover dwell has passed: the UF event ends (R119). -/
def State.endEvent (s : State) : State :=
  { s with shed := { s.shed with
      stages := idleStages, recover := none, ufActive := false, shedEvent := 0 } }

/-- The UF event is ended and the dwell stopped by a change of the island state (R128, R130). -/
def State.endUf (s : State) : State :=
  { s with shed := { s.shed with
      stages := idleStages, recover := none, ufActive := false, shedEvent := 0
      dwell := none, dwellMet := false } }

/-- Step 1 of R115 for one stage at deviation `d`, at the time `now`. -/
def judgeStage (cfg : StageCfg) (now : Nat) (d : Int) (x : StageState) : StageState :=
  if !cfg.enabled then x
  else
    match x.cond with
    | .idle => if d ≤ -(cfg.threshold : Int) then ⟨.armed, some (now + cfg.delay)⟩ else x
    | .armed => if d ≤ -(cfg.threshold : Int) then x else ⟨.idle, none⟩
    | .fired => x

/-- Step 1 of R115 for every stage. -/
def State.judgeStages (s : State) (d : Int) : State :=
  { s with shed := { s.shed with
      stages := forEach stageNumbers
        (fun n v => upd v n (judgeStage s.act.stages[n] s.clock d)) s.shed.stages } }

/-- Whether stage `n` was IDLE in `s` and is ARMED in `t`. -/
def armedAt (s t : State) (n : Fin 6) : Bool :=
  s.shed.stages[n].cond == .idle && t.shed.stages[n].cond == .armed

/-- A UF event begins (R118). -/
def State.beginEvent (s : State) : State :=
  { s with shed := { s.shed with
      ufActive := true, shedEvent := 0, dwell := none, dwellMet := false } }

/-- Step 3 of R115: the recover timer at a report of an active event (R119). A recover dwell of 0
ends the event at once (R110). -/
def State.judgeRecovery (s : State) (d : Int) : State :=
  if !s.shed.ufActive then s
  else if stageNumbers.all (fun n => s.shed.stages[n].cond != .armed)
      && -(s.act.recoverBand : Int) ≤ d then
    match s.shed.recover with
    | some _ => s
    | none =>
      if s.act.recoverDwell = 0 then s.endEvent
      else { s with shed := { s.shed with recover := s.timer s.act.recoverDwell } }
  else { s with shed := { s.shed with recover := none } }

/-! ## Restoration (6.6) -/

/-- R124 at a report. -/
def State.judgeDwell (s : State) (d : Int) : State :=
  if -(s.act.recoverBand : Int) ≤ d then
    if s.shed.dwell.isNone && !s.shed.dwellMet then
      { s with shed := { s.shed with dwell := s.timer s.act.restoreDwell } }
    else s
  else { s with shed := { s.shed with dwell := none, dwellMet := false } }

/-- The pickup of an entry: its load at shed, by the cold factor once the cold time has passed,
rounded up (R125). -/
def State.pickup (s : State) (e : StackEntry) : Nat :=
  let c := if s.act.coldTime ≤ s.shed.seconds - e.time then (s.fdrCfg e.feeder).coldFactor else 1000
  (e.load * c + 999) / 1000

/-- The conditions under which restoration begins for the top entry of the stack (R125). -/
def State.mayRestore (s : State) (e : StackEntry) : Bool :=
  s.bs.island == .balancing && s.mode.mode != .commissioning && !s.shed.ufActive
  && s.shed.dwellMet && s.shed.interval.isNone
  && (s.fdr e.feeder).state == .shed && !(s.fdrRec e.feeder).fresh.isLost
  && s.shed.stack.all (fun x => (s.fdr x.feeder).state != .restoring)
  && s.bal.fig.valid && decide ((s.pickup e : Int) ≤ s.bal.fig.m)

/-- The top feeder is ordered closed; the confirm and the restore interval timers start. -/
def State.beginRestore (s : State) (i : Fin 32) : State :=
  let s := ((s.setFdrState i .restoring).fdrOrder i .close .routine).startConfirm i
  { s with shed := { s.shed with interval := s.timer s.act.restoreInterval } }

def State.judgeRestore (s : State) : State :=
  match s.shed.stack with
  | [] => s
  | e :: _ => if s.mayRestore e then s.beginRestore e.feeder else s

/-- The island states in which the stages and the dwell are judged (R115, R124). -/
def Island.live : Island → Bool
  | .balancing | .restoring | .pvReturn => true
  | .unconfigured | .survey | .blackout | .firstSource | .energizing | .abandoned => false

/-- A tapped BUS report at the shedding unit, in the order of R115; a stage armed with delay 0 fires
between the second step and the third. Several such stages armed by one report fire in ascending stage
number, an order that R115 and R116 do not give (DESIGN CHOICE, log entry 33). -/
def State.shedBusTap (s : State) (d : Int) : State :=
  if !s.bs.island.live then s
  else
    let t := s.judgeStages d
    let u := if !s.shed.ufActive && stageNumbers.any (armedAt s t) then t.beginEvent else t
    let u := forEach stageNumbers
      (fun n x => if armedAt s t n && s.act.stages[n].delay == 0 then x.fireStage n else x) u
    ((u.judgeRecovery d).judgeDwell d).judgeRestore

/-- The bus meter goes from FRESH to LATE (R117). -/
def State.shedBusLate (s : State) : State :=
  { s with shed := { s.shed with recover := none, dwell := none, dwellMet := false } }

/-- The bus meter goes LOST: ARMED stages become IDLE; the dwell is stopped (R117, R124). The recover
timer is stopped as well, since the event ends by recovery on fresh reports only (log entry 15). -/
def State.shedBusLost (s : State) : State :=
  { s with shed := { s.shed with
      stages := forEach stageNumbers
        (fun n v => upd v n fun x => if x.cond == .armed then ⟨.idle, none⟩ else x) s.shed.stages
      recover := none, dwell := none, dwellMet := false } }

/-! ## Feeder reports (R113) and the confirm timer (R114) -/

/-- An external close: the feeder shows itself closed though it stands ordered open. -/
def State.externalClose (s : State) (i : Fin 32) : State :=
  ((s.setFdrState i .closed).fdrNone i).raise .feederStuck

def State.fdrShowsOpen (s : State) (i : Fin 32) : State :=
  match (s.fdr i).state, (s.fdr i).order with
  | .closed, _ => s.setFdrState i .openOther
  | .shedPending, _ => (s.setFdrState i .shed).stopConfirm i
  | .heldOpen, .open | .heldOpen, .none => s.modFdr i fun j => { j with openConfirmed := true }
  | .stuck, _ => s.setFdrState i .openOther
  | _, _ => s

def State.fdrShowsClosed (s : State) (i : Fin 32) : State :=
  match (s.fdr i).state, (s.fdr i).order with
  | .openOther, _ => s.setFdrState i .closed
  | .shed, _ => (s.unstack i).externalClose i
  | .restoring, _ => (((s.setFdrState i .closed).stopConfirm i).unstack i).fdrNone i
  | .heldOpen, .open => if (s.fdr i).openConfirmed then s.externalClose i else s
  | .heldOpen, .close => ((s.setFdrState i .closed).stopConfirm i).fdrNone i
  | .heldOpen, .none => (s.setFdrState i .closed).fdrNone i
  | _, _ => s

/-- R112: the echo of a tapped FDR report against the standing order. -/
def State.fdrEcho (s : State) (i : Fin 32) (v : FdrValues) : State :=
  let j := s.fdr i
  if j.order == .none then s
  else if echoMatches j.order j.tag v.echoCode v.echoTag then
    s.modFdr i fun j => { j with taken := true, unanswered := false, sendCount := 0 }
  else if j.taken || j.unanswered || !s.resendDue j.lastSend then s
  else if j.sendCount < s.act.resendLimit then
    if (j.order == .open && j.state != .heldOpen && !s.act.shedList.contains i)
        || (j.order == .close && s.mode.mode == .commissioning) then s
    else
      (s.modFdr i fun j =>
        { j with sendCount := j.sendCount + 1, lastSend := some s.clock }).placeFor
        (.feeder i) j.order j.tag 0 j.cls
  else (s.modFdr i fun j => { j with unanswered := true }).raise .orderUnanswered

/-- A tapped FDR report at the shedding unit: first the state, which SURVEY leaves alone, then the
echo. -/
def State.shedFdrTap (s : State) (i : Fin 32) : State :=
  match (s.fdrRec i).vals with
  | none => s
  | some v =>
    let s :=
      if s.bs.island == .survey then s
      else
        match v.breaker with
        | .open => s.fdrShowsOpen i
        | .closed => s.fdrShowsClosed i
    s.fdrEcho i v

/-- The entry of a feeder on the stack. -/
def State.entryOf (s : State) (i : Fin 32) : Option StackEntry :=
  s.shed.stack.find? fun e => e.feeder == i

/-- A change of breaker was not confirmed in time: STUCK, standing NONE. -/
def State.stick (s : State) (i : Fin 32) : State :=
  (((s.setFdrState i .stuck).stopConfirm i).fdrNone i).raise .feederStuck

/-- A shed was not confirmed: its load leaves shed_event while a UF event is active, and as much is
shed again, for the same reason (R114). -/
def State.reShed (s : State) (e : StackEntry) : State :=
  let s :=
    if s.shed.ufActive then { s with shed := { s.shed with shedEvent := s.shed.shedEvent - e.load } }
    else s
  s.demand e.load e.reason

/-- The confirm timer of a feeder expires (R114). -/
def State.confirmExpiry (s : State) (i : Fin 32) : State :=
  match (s.fdr i).state, (s.fdr i).order with
  | .shedPending, _ =>
    match s.entryOf i with
    | none => s.stick i
    | some e => ((s.unstack i).stick i).reShed e
  | .restoring, _ => (s.unstack i).stick i
  | .heldOpen, .close => s.stick i
  | _, _ => s.stopConfirm i

/-! ## Modes, blackout, black start, survey (6.7, 6.8) -/

/-- R127, for one feeder standing CLOSE. -/
def State.withdrawClose (s : State) (i : Fin 32) : State :=
  let j := s.fdr i
  if j.order != .close || j.taken then s
  else
    match j.state with
    | .restoring => ((s.setFdrState i .shed).stopConfirm i).fdrNone i
    | .heldOpen => (s.stopConfirm i).fdrNone i
    | .closed | .openOther | .shedPending | .shed | .stuck => s

/-- The mode becomes COMMISSIONING (R127). -/
def State.shedEnterCommissioning (s : State) : State :=
  forEach feeders (fun i s => s.withdrawClose i) (s.withdraw [.close])

/-- The state that a feeder takes from its last tapped report: CLOSED where it shows the breaker
closed, OPEN_OTHER otherwise. -/
def State.reportedState (s : State) (i : Fin 32) : FdrState :=
  if s.fdrShows i .closed then .closed else .openOther

/-- One entry of the stack is discarded without an order (R128). -/
def State.discardEntry (s : State) (e : StackEntry) : State :=
  ((s.setFdrState e.feeder (s.reportedState e.feeder)).stopConfirm e.feeder).fdrNone e.feeder

/-- The stack is emptied (R128). -/
def State.emptyStack (s : State) : State :=
  let t := forEach s.shed.stack (fun e s => s.discardEntry e) s
  { t with shed := { t.shed with stack := [] } }

/-- The black-start controller holds a feeder open (R129). -/
def State.holdOpen (s : State) (i : Fin 32) : State :=
  let s := ((s.setFdrState i .heldOpen).stopConfirm i).fdrOrder i .open .urgent
  s.modFdr i fun j => { j with openConfirmed := s.fdrShows i .open }

/-- The clear-down at the shedding unit (R129). -/
def State.shedClearDown (s : State) : State :=
  forEach feeders
    (fun i s => if (s.fdrCfg i).configured then s.holdOpen i else s) s.emptyStack

/-- The settle request (R129). -/
def State.shedSettle (s : State) : State :=
  forEach feeders (fun i s =>
    if (s.fdr i).state == .heldOpen && !(s.fdr i).openConfirmed && !(s.fdrRec i).fresh.isLost then
      ((s.setFdrState i .stuck).fdrNone i).raise .feederStuck
    else s) s

/-- The step close request (R129). The CLOSE orders are placed in the order in which the feeders are
given, which R129 and R150 do not name (DESIGN CHOICE, log entry 36). -/
def State.shedStepClose (s : State) (is : List (Fin 32)) : State :=
  forEach is (fun i s =>
    if (s.fdr i).state == .heldOpen then (s.fdrOrder i .close .routine).startConfirm i else s) s

/-- The release at entry to BALANCING from PV_RETURN (R129). -/
def State.shedRelease (s : State) : State :=
  forEach feeders (fun i s =>
    if (s.fdr i).state == .heldOpen then
      ((s.setFdrState i .openOther).stopConfirm i).fdrNone i
    else s) s

/-- Survey adoption at the shedding unit (R130). -/
def State.shedAdopt (s : State) : State :=
  forEach feeders (fun i s =>
    if (s.fdrCfg i).configured && (s.fdr i).state != .stuck then
      ((s.setFdrState i (s.reportedState i)).stopConfirm i).fdrNone i
    else s) s.emptyStack

end Sys2Proof.Machine
end

