-- ==== Sys2Proof/Machine/Sequencer.lean ====
section
/-! DEFINITION. The set sequencer: one state machine per genset, starts, standing orders, trips and
source loss (chapter 5). -/

namespace Sys2Proof.Machine

/-! ## What the sequencer reads -/

/-- A counter at or above the qualification count in force qualifies its condition (R38). -/
def State.qualifies (s : State) (n : Nat) : Bool := n != 0 && s.act.qualCount ≤ n

def State.genLost (s : State) (g : Fin 8) : Bool := (s.genRec g).fresh.isLost

/-- A genset's clamped output, 0 where absent. -/
def State.genOut (s : State) (g : Fin 8) : Nat :=
  match (s.genRec g).vals with
  | none => 0
  | some v => v.out

/-- Whether a genset's last tapped report shows its breaker so. -/
def State.genShows (s : State) (g : Fin 8) (b : Breaker) : Bool :=
  match (s.genRec g).vals with
  | none => false
  | some v => v.breaker == b

/-- G_on: the configured sets that are ONLINE and FRESH or LATE (R47). -/
def State.inGon (s : State) (g : Fin 8) : Bool :=
  (s.genCfg g).configured && (s.gen g).state == .online && !s.genLost g

/-- CRANKING, RESTING, WARMUP and SYNCING hold a start slot (R80). -/
def GenState.starting : GenState → Bool
  | .cranking | .resting | .warmup | .syncing => true
  | .notReady | .standby | .hot | .online | .unloading | .cooldown | .stopping | .lockout
  | .unseen => false

/-- ONLINE, UNLOADING and UNSEEN: the sets that count as on line (R139), in which the min-run timer
runs on (R92). -/
def GenState.onLine : GenState → Bool
  | .online | .unloading | .unseen => true
  | .notReady | .standby | .cranking | .resting | .warmup | .hot | .syncing | .cooldown
  | .stopping | .lockout => false

/-- The number of sets that hold a start slot (R82). -/
def State.startCount (s : State) : Nat :=
  (gensets.filter fun g => (s.gen g).state.starting).length

/-! ## Standing orders (R102, R105) -/

/-- A standing order set to NONE. -/
def State.genNone (s : State) (g : Fin 8) : State :=
  (s.modGen g fun j =>
    { j with order := .none, sendCount := 0, taken := false, unanswered := false }).emptyFor
    (.genset g)

/-- A new standing order; in COMMISSIONING any other code than OPEN is recorded and not placed, and
the slot is emptied (R105). -/
def State.genNewOrder (s : State) (g : Fin 8) (code : OrderCode) (cls : OrderClass) : State :=
  let tag := (s.gen g).tag + 1
  if s.mode.mode == .commissioning && code != .open then
    (s.modGen g fun j =>
      { j with order := code, tag := tag, sendCount := 0, taken := false, unanswered := false,
               cls := cls, lastSend := none }).emptyFor (.genset g)
  else
    (s.modGen g fun j =>
      { j with order := code, tag := tag, sendCount := 1, taken := false, unanswered := false,
               cls := cls, lastSend := some s.clock }).placeFor (.genset g) code tag 0 cls

/-- The standing order becomes `code`, class ROUTINE: a new standing order where the code changes. -/
def State.genOrder (s : State) (g : Fin 8) (code : OrderCode) : State :=
  if (s.gen g).order == code then s else s.genNewOrder g code .routine

/-! ## Changes of state -/

/-- A set changes its state: its supervision timer is cancelled (R80), its min-run timer too but in
the states in which it runs on (R92), its first-source mark stays only where `keep` says so (R91);
the change is noted for the black-start controller. -/
def State.setGenState (s : State) (g : Fin 8) (x : GenState) (keep : Bool) : State :=
  let j := s.gen g
  let s := s.modGen g fun j =>
    { j with state := x, before := none, sup := none, mark := keep && j.mark
             minRun := if x.onLine then j.minRun else .stopped }
  if j.state == x then s
  else { s with seq := { s.seq with
          changes := s.seq.changes ++ [⟨g, j.state, x, j.mark, s.bs.island⟩] } }

/-- The supervision timer starts with a period in seconds. -/
def State.startSup (s : State) (g : Fin 8) (sec : Nat) : State :=
  s.modGen g fun j => { j with sup := s.timer (sec * 1000) }

def State.stopSup (s : State) (g : Fin 8) : State := s.modGen g fun j => { j with sup := none }

/-- NOT_READY, entered plainly. -/
def State.enterNotReady (s : State) (g : Fin 8) : State :=
  (s.setGenState g .notReady false).genNone g

/-- STANDBY, entered plainly. -/
def State.enterStandby (s : State) (g : Fin 8) : State :=
  (s.setGenState g .standby false).genNone g

/-- STOPPING with standing STOP (R99). -/
def State.enterStopping (s : State) (g : Fin 8) : State :=
  ((s.setGenState g .stopping false).genOrder g .stop).startSup g (s.genCfg g).stopTime

/-- The cool timer starts; a cool time of 0 expires at once (R80). -/
def State.startCool (s : State) (g : Fin 8) : State :=
  if (s.genCfg g).coolTime = 0 then s.enterStopping g else s.startSup g (s.genCfg g).coolTime

/-- COOLDOWN with standing OPEN; the cool timer starts where the breaker is shown open (R98). -/
def State.enterCooldown (s : State) (g : Fin 8) : State :=
  let s := (s.setGenState g .cooldown false).genOrder g .open
  if s.genShows g .open then s.startCool g else s

/-- HOT with standing NONE; the hot time is the cool time plus the warm time (R88). -/
def State.enterHot (s : State) (g : Fin 8) : State :=
  let sec := (s.genCfg g).coolTime + (s.genCfg g).warmTime
  let s := (s.setGenState g .hot false).genNone g
  if sec = 0 then s.enterCooldown g else s.startSup g sec

/-- SYNCING with standing CLOSE-DEAD or CLOSE-SYNC (R89). -/
def State.enterSyncing (s : State) (g : Fin 8) (dead : Bool) : State :=
  ((s.setGenState g .syncing true).genOrder g (if dead then .closeDead else .closeSync)).startSup
    g (s.genCfg g).syncTime

/-- RESTING with standing STOP (R85). -/
def State.enterResting (s : State) (g : Fin 8) : State :=
  ((s.setGenState g .resting false).genOrder g .stop).startSup g (s.genCfg g).restTime

/-- CRANKING with standing START and the attempt count that the causing rule gives (R82, R86). -/
def State.enterCranking (s : State) (g : Fin 8) (attempts : Nat) : State :=
  (((s.setGenState g .cranking false).modGen g fun j =>
    { j with attempts := attempts }).genOrder g .start).startSup g (s.genCfg g).crankTime

/-- LOCKOUT with standing STOP or OPEN (R95). START_FAILED has been raised by the failure itself. An
insertion of a START for the set is cut. -/
def State.enterLockout (s : State) (g : Fin 8) (code : OrderCode) : State :=
  let s := ((s.setGenState g .lockout false).genOrder g code).raise .lockout
  match s.act.stationOf (.genset g) with
  | none => s
  | some a => s.cutOrders fun b c => a == b && c == OrderCode.start.code

/-- A failed attempt of a set in CRANKING, WARMUP or HOT (R85). -/
def State.failedAttempt (s : State) (g : Fin 8) : State :=
  let s := s.raise .startFailed
  if (s.gen g).attempts < (s.genCfg g).maxAttempts then
    if (s.gen g).state == .hot && s.act.parallelStarts ≤ s.startCount then s.enterStopping g
    else s.enterResting g
  else s.enterLockout g .stop

/-- A failed close (R90). -/
def State.failedClose (s : State) (g : Fin 8) : State :=
  let s := s.raise .startFailed
  if (s.gen g).attempts < (s.genCfg g).maxAttempts then s.enterCooldown g
  else s.enterLockout g .open

/-- The warm time has passed (R87). -/
def State.warmDone (s : State) (g : Fin 8) : State :=
  if s.genLost g then s.failedAttempt g
  else if s.bs.island.live then s.enterSyncing g false
  else if s.bs.island == .firstSource && (s.gen g).mark then s.enterSyncing g true
  else s.enterHot g

/-- WARMUP with standing NONE; a warm time of 0 expires at once (R84, R80). -/
def State.enterWarmup (s : State) (g : Fin 8) : State :=
  let s := (s.setGenState g .warmup true).genNone g
  if (s.genCfg g).warmTime = 0 then s.warmDone g else s.startSup g (s.genCfg g).warmTime

/-- ONLINE from SYNCING (R89): the min-run timer starts, and the attempt count becomes 0 unless the set
is the first source. -/
def State.enterOnline (s : State) (g : Fin 8) : State :=
  let run := (s.genCfg g).minRun
  ((s.setGenState g .online true).genNone g).modGen g fun j =>
    { j with attempts := if j.mark then j.attempts else 0
             minRun := if run = 0 then .expired else .running (s.clock + run * 1000) }

/-! ## Start and stop requests -/

/-- The configured set of lowest start rank in a state, of those that `p` admits. -/
def State.lowestRank (s : State) (p : Fin 8 → Bool) (x : GenState) : Option (Fin 8) :=
  leastBy (fun g => (s.genCfg g).startRank)
    (gensets.filter fun g => (s.genCfg g).configured && (s.gen g).state == x && p g)

/-- The set of lowest start rank in HOT, else in STANDBY (R82, R143). -/
def State.chooseStart (s : State) (p : Fin 8 → Bool) : Option (Fin 8) :=
  match s.lowestRank p .hot with
  | some g => some g
  | none => s.lowestRank p .standby

/-- The set that a start request takes (R82, step 3). -/
def State.startChoice (s : State) (named : Option (Fin 8)) : Option (Fin 8) :=
  match named with
  | some g => if (s.gen g).state == .hot || (s.gen g).state == .standby then some g else none
  | none => s.chooseStart fun _ => true

/-- A start request takes a set (R82, steps 4 and 5). From STANDBY one more attempt is counted, up to max
attempts; a count that a rest expiry has carried above max attempts (R86) comes down to it, which R82 leaves
open (DESIGN CHOICE, log entry 40). -/
def State.takeStart (s : State) (g : Fin 8) (dead : Bool) : State :=
  let s :=
    if (s.gen g).state == .hot then s.enterSyncing g dead
    else s.enterCranking g (min ((s.gen g).attempts + 1) (s.genCfg g).maxAttempts)
  if dead then s.modGen g fun j => { j with mark := true } else s

/-- A start request, of the balance engine or of the black-start controller (R82). -/
def State.startRequest (s : State) (named : Option (Fin 8)) (dead : Bool) : State :=
  if s.mode.mode == .commissioning || s.bs.island == .survey then s
  else if s.act.parallelStarts ≤ s.startCount then s
  else
    match s.startChoice named with
    | none => s
    | some g => s.takeStart g dead

/-- A stop request of the balance engine (R92). -/
def State.stopSet (s : State) (g : Fin 8) : State :=
  if (s.gen g).state == .online then
    ((s.setGenState g .unloading false).genOrder g .unload).startSup g (s.genCfg g).unloadTime
  else s

/-- The round-complete event with m, for one set (R93). -/
def State.roundCompleteOf (s : State) (m : Int) (g : Fin 8) : State :=
  if (s.gen g).state != .unloading then s
  else
    match (s.gen g).order with
    | .unload => if m < 0 then (s.setGenState g .online false).genOrder g .load else s
    | .none => s.setGenState g .online false
    | _ => s

/-- The round-complete event for every set, in ascending genset index: R93 gives no order in which several
sets place their LOAD (DESIGN CHOICE, log entry 36). -/
def State.roundComplete (s : State) (m : Int) : State :=
  forEach gensets (fun g s => s.roundCompleteOf m g) s

/-! ## Trips and source loss (R94, R96) -/

/-- The headroom of the sets left on line when `g` has tripped (R96, step 2). -/
def State.headroomWithout (s : State) (g : Fin 8) : Int :=
  ((gensets.filter fun k => s.inGon k && k != g).map fun k =>
    ((s.genCfg k).rating : Int) - s.genOut k).sum

/-- The demand of a source loss of `load` kW (R96, step 3). -/
def State.sourceLossDemand (s : State) (g : Fin 8) (load : Nat) : Int :=
  max 0 ((load : Int) - s.headroomWithout g - (s.act.pvCredit : Int) * s.offeredU / 100)

/-- Steps 1 to 4 of a source loss (R96). -/
def State.sourceLoss (s : State) (g : Fin 8) (load : Nat) : State :=
  let s := s.sourceLossRelease
  let q := s.sourceLossDemand g load
  if 0 < q then (s.reducedDemand q .sourceLoss).raise .sourceLossShed else s

/-- COOLDOWN where the report shows the engine RUNNING, NOT_READY otherwise (R94). -/
def State.tripEntry (s : State) (g : Fin 8) (v : GenValues) : State :=
  if v.engine == .running then s.enterCooldown g else s.enterNotReady g

/-- A trip (R94). -/
def State.trip (s : State) (g : Fin 8) (v : GenValues) : State :=
  let load := (s.genRec g).lastLoaded.getD 0
  if (s.gen g).state == .unloading then
    if load ≤ (s.genCfg g).unloadThreshold then s.enterCooldown g
    else (s.sourceLoss g load).tripEntry g v
  else if s.act.tripThreshold < load then (s.sourceLoss g load).tripEntry g v
  else s.tripEntry g v

/-! ## Reports -/

/-- Whether a report qualifies the engine STOPPED or the breaker OPEN, and so on (R38). -/
def State.qRunning (s : State) (g : Fin 8) : Bool := s.qualifies (s.genRec g).nRunning
def State.qStopped (s : State) (g : Fin 8) : Bool := s.qualifies (s.genRec g).nStopped
def State.qClosed (s : State) (g : Fin 8) : Bool := s.qualifies (s.genRec g).nClosed
def State.qOpen (s : State) (g : Fin 8) : Bool := s.qualifies (s.genRec g).nOpen

/-- STANDBY or NOT_READY at a report that qualifies STOPPED (R99). -/
def State.stoppedEntry (s : State) (g : Fin 8) (v : GenValues) : State :=
  if v.inAuto && v.breaker == .open then s.enterStandby g else s.enterNotReady g

/-- A set in UNSEEN at the report that makes it FRESH again (R97). A return to UNLOADING starts the unload timer
and no more: whether the same report, with its output at or below the unload threshold, orders OPEN by R93 as
well is open, and the model waits for the next report. DESIGN CHOICE (log entry 45). -/
def State.unseenReturn (s : State) (g : Fin 8) (v : GenValues) : State :=
  match v.breaker with
  | .open => s.tripEntry g v
  | .closed =>
    if (s.gen g).before == some .unloading then
      (s.setGenState g .unloading false).startSup g (s.genCfg g).unloadTime
    else s.setGenState g .online false

/-- The state transition that a tapped GEN report causes, by the state of the set. Where a report fits
several rows of a state's table, the first row is taken (log entry 12); it is not judged again in the state that
it leads to (DESIGN CHOICE, log entry 45). -/
def State.genTransition (s : State) (g : Fin 8) (v : GenValues) : State :=
  let fault := v.engine == .fault
  match (s.gen g).state with
  | .notReady =>
    if s.bs.island != .survey && v.inAuto && s.qStopped g && s.qOpen g then s.enterStandby g else s
  | .standby =>
    if !v.inAuto || v.engine != .stopped || v.breaker == .closed then s.enterNotReady g else s
  | .cranking =>
    if s.qRunning g then s.enterWarmup g
    else if fault then s.failedAttempt g
    else if !v.inAuto then s.enterNotReady g
    else s
  | .resting => if fault || !v.inAuto then s.enterNotReady g else s
  | .warmup | .hot =>
    if fault || s.qStopped g then s.failedAttempt g
    else if !v.inAuto then s.enterNotReady g
    else s
  | .syncing =>
    if s.qClosed g then s.enterOnline g
    else if fault || s.qStopped g then s.failedClose g
    else if !v.inAuto then s.enterNotReady g
    else s
  | .online =>
    if (s.gen g).order == .open then if s.qOpen g then s.enterCooldown g else s
    else if v.breaker == .open then s.trip g v
    else s
  | .unloading =>
    if (s.gen g).order == .open then if s.qOpen g then s.enterCooldown g else s
    else if v.breaker == .open then s.trip g v
    else if (s.gen g).order == .unload && v.out ≤ (s.genCfg g).unloadThreshold then
      (s.genOrder g .open).stopSup g
    else s
  | .cooldown =>
    if s.qStopped g then s.stoppedEntry g v
    else if fault then s.enterNotReady g
    else if (s.gen g).sup.isNone && s.qOpen g then s.startCool g
    else s
  | .stopping =>
    if s.qStopped g then s.stoppedEntry g v
    else if fault then s.enterNotReady g
    else s
  | .lockout => if (s.gen g).order == .open && s.qOpen g then s.genOrder g .stop else s
  | .unseen => s.unseenReturn g v

/-- The effect of an unanswered order on its set (R104). -/
def State.unansweredEffect (s : State) (g : Fin 8) : State :=
  match (s.gen g).state with
  | .cranking | .warmup | .hot => s.failedAttempt g
  | .syncing => s.failedClose g
  | .online | .unloading => s.genNone g
  | .resting | .cooldown | .stopping => s.enterNotReady g
  | .notReady | .standby | .lockout | .unseen => s

/-- The echo of a tapped GEN report against the standing order (R103). -/
def State.genEcho (s : State) (g : Fin 8) (v : GenValues) : State :=
  let j := s.gen g
  if j.order == .none then s
  else if echoMatches j.order j.tag v.echoCode v.echoTag then
    s.modGen g fun j => { j with taken := true, unanswered := false, sendCount := 0 }
  else if j.taken || j.unanswered || !s.resendDue j.lastSend then s
  else if j.sendCount < s.act.resendLimit then
    if s.mode.mode == .commissioning && j.order != .open then s
    else
      (s.modGen g fun j =>
        { j with sendCount := j.sendCount + 1, lastSend := some s.clock }).placeFor
        (.genset g) j.order j.tag 0 j.cls
  else
    ((s.modGen g fun j => { j with unanswered := true }).raise .orderUnanswered).unansweredEffect g

/-- The freshness event that makes a genset's record LOST (R81, R97). -/
def State.genGoesLost (s : State) (g : Fin 8) : State :=
  match (s.gen g).state with
  | .standby => s.enterNotReady g
  | .online => (s.setGenState g .unseen false).modGen g fun j => { j with before := some .online }
  | .unloading =>
    (s.setGenState g .unseen false).modGen g fun j => { j with before := some .unloading }
  | _ => s

/-- A tapped BUS report that qualifies LIVE turns a standing CLOSE-DEAD into CLOSE-SYNC; the sync timer
runs on (R89). Several such sets place it in ascending genset index (DESIGN CHOICE, log entry 36). -/
def State.seqBusTap (s : State) : State :=
  if s.qualifies s.pic.bus.nLive then
    forEach gensets (fun g s =>
      if (s.gen g).state == .syncing && (s.gen g).order == .closeDead then s.genOrder g .closeSync
      else s) s
  else s

/-! ## Supervision timers -/

/-- The rest time has passed; `wanted` says that a start is still requested (R86). One more attempt is
counted without a bound, which shows where a commit has lowered max attempts to the count. -/
def State.restDone (s : State) (g : Fin 8) (wanted : Bool) : State :=
  if wanted then s.enterCranking g ((s.gen g).attempts + 1) else s.enterStandby g

/-- The unload time has passed (R93). -/
def State.unloadDone (s : State) (g : Fin 8) : State :=
  let s := s.stopSup g
  if (s.gen g).order == .unload then s.genOrder g .open else s

/-! ## Modes, clear-down, abandonment, adoption -/

/-- The mode becomes COMMISSIONING (R105). -/
def State.seqEnterCommissioning (s : State) : State :=
  s.withdraw [.start, .stop, .unload, .load, .closeSync, .closeDead]

/-- A set leaves LOCKOUT by CLEAR LOCKOUT or RELEASE (R95). -/
def State.clearLockout (s : State) (g : Fin 8) : State :=
  (s.enterNotReady g).modGen g fun j => { j with attempts := 0 }

/-- RELEASE at the sequencer: every set in LOCKOUT (R95). -/
def State.releaseLockouts (s : State) : State :=
  forEach gensets (fun g s => if (s.gen g).state == .lockout then s.clearLockout g else s) s

/-- The clear-down at the sequencer (R106). -/
def State.genClearDown (s : State) : State :=
  forEach gensets (fun g s =>
    if !(s.genCfg g).configured then s
    else if (s.gen g).state.onLine then s.genNewOrder g .open .urgent
    else if (s.gen g).state == .syncing then s.enterHot g
    else s) s

/-- Entry to ABANDONED at the sequencer: SYNCING sets to HOT, marks cleared but on an ONLINE set
(R106). The sets are taken in ascending genset index, as in the clear-down. -/
def State.genAbandon (s : State) : State :=
  forEach gensets (fun g s =>
    let s := if (s.gen g).state == .syncing then s.enterHot g else s
    if (s.gen g).state == .online then s else s.modGen g fun j => { j with mark := false }) s

/-- Entry to RESTORING at the sequencer (R91). -/
def State.genSettled (s : State) : State :=
  forEach gensets (fun g s =>
    if (s.gen g).mark then s.modGen g fun j => { j with attempts := 0, mark := false } else s) s

/-- Energize failure handed to the sequencer (R91). Several marked sets ONLINE are taken in ascending
genset index (DESIGN CHOICE, log entry 36). -/
def State.energizeFailure (s : State) : State :=
  forEach gensets (fun g s =>
    if (s.gen g).state == .online && (s.gen g).mark then s.failedClose g else s) s

/-- The state that one set adopts from its last tapped report (R107). -/
def State.adoptGen (s : State) (g : Fin 8) : State :=
  let s := s.modGen g fun j => { j with sup := none, minRun := .stopped, mark := false }
  match (s.genRec g).vals with
  | none => s.enterNotReady g
  | some v =>
    match v.engine, v.breaker with
    | .fault, _ => s.enterNotReady g
    | .running, .closed =>
      ((s.setGenState g .online false).genNone g).modGen g fun j => { j with minRun := .expired }
    | .running, .open => s.enterCooldown g
    | .cranking, _ => s.enterStopping g
    | .stopped, .open => if v.inAuto then s.enterStandby g else s.enterNotReady g
    | .stopped, .closed => s.enterNotReady g

/-- Survey adoption at the sequencer (R107). The sets place their OPEN and STOP orders in ascending genset
index, an order that R107 and R138 do not give (DESIGN CHOICE, log entry 36). -/
def State.genAdopt (s : State) : State :=
  forEach gensets (fun g s =>
    if (s.genCfg g).configured && (s.gen g).state != .lockout then s.adoptGen g else s) s

/-! ## A commit that lowers parallel starts (R83) -/

/-- A start is ended at the boundary. -/
def State.endStart (s : State) (g : Fin 8) : State :=
  match (s.gen g).state with
  | .warmup | .syncing => s.enterHot g
  | .cranking | .resting => s.enterStopping g
  | _ => s

/-- Ends starts, the set of highest start rank first, until the count is within the new value. -/
def endStarts : Nat → State → State
  | 0, s => s
  | n + 1, s =>
    if s.startCount ≤ s.act.parallelStarts then s
    else
      match greatestBy (fun g => (s.genCfg g).startRank)
          (gensets.filter fun g => (s.gen g).state.starting) with
      | none => s
      | some g => endStarts n (s.endStart g)

end Sys2Proof.Machine
end

