-- ==== Sys2Proof/Machine/Controller.lean ====
section
/-! DEFINITION. The black-start controller: island states, survey, clear-down, first source,
energizing, restoration steps and PV return (chapter 7). -/

namespace Sys2Proof.Machine

def State.modBs (s : State) (f : BlackStart → BlackStart) : State := { s with bs := f s.bs }

/-- A change of island state, with its notice flag (R135). The BLACKOUT phase is one of BLACKOUT alone;
the survey timer is cancelled when the island leaves SURVEY (R136). The notice takes its header before the
orders that the neighbours place at the entry take theirs, an order that no rule gives (DESIGN CHOICE, log
entry 37). -/
def State.setIsland (s : State) (x : Island) : State :=
  (s.modBs fun b =>
    { b with island := x, phase := .none
             survey := if x == .survey then b.survey else none
             surveyEnded := if x == .survey then b.surveyEnded else false }).raise
    .islandStateChange

/-! ## ABANDONED (R148) -/

/-- Entry to ABANDONED: the neighbours act (R106, R130), then every timer is cancelled and the held
start requests are cleared. Both flags are raised before the neighbours act (DESIGN CHOICE, log entry
37). -/
def State.enterAbandoned (s : State) : State :=
  let s := ((s.setIsland .abandoned).raise .bsAbandoned).genAbandon.endUf
  s.modBs fun b =>
    { b with held := false, clearDown := none, limit := none, energize := none
             stepInterval := none, capacityHold := none, pvHold := none, pvGap := none }

/-! ## FIRST_SOURCE (R143, R144) -/

/-- Whether a set is one that a black start may use. -/
def State.eligible (s : State) (g : Fin 8) : Bool :=
  (s.genCfg g).configured && (s.genCfg g).eligible

def State.anyMarked (s : State) : Bool := gensets.any fun g => (s.gen g).mark

/-- The choice of a first source, and the start request for it with the dead-bus mark (R143). While any
set bears the first-source mark no choice is made, at the entry to FIRST_SOURCE as at later changes
(DEDUCED, log entry 35). -/
def State.chooseFirstSource (s : State) : State :=
  if s.bs.island != .firstSource || s.mode.mode == .commissioning || s.anyMarked then s
  else
    match s.chooseStart s.eligible with
    | none => s
    | some g => s.startRequest (some g) true

/-- Every eligible set is in LOCKOUT, or none is configured (R144, at entry). -/
def State.allLockedOut (s : State) : Bool :=
  gensets.all fun g => !s.eligible g || (s.gen g).state == .lockout

/-- Every eligible set is in LOCKOUT or NOT_READY (R144, while in FIRST_SOURCE). -/
def State.noneAvailable (s : State) : Bool :=
  gensets.all fun g =>
    !s.eligible g || (s.gen g).state == .lockout || (s.gen g).state == .notReady

/-- Entry to FIRST_SOURCE; from ENERGIZING the shedding unit ends the UF event (R130, R135). -/
def State.enterFirstSource (s : State) : State :=
  let wasEnergizing := s.bs.island == .energizing
  let s := s.setIsland .firstSource
  let s := if wasEnergizing then s.endUf else s
  if s.allLockedOut then s.enterAbandoned else s.chooseFirstSource

/-- Whether the controller holds a start request for a set, or an unnamed one (R86, R143, R151). -/
def State.holdsRequest (s : State) (g : Fin 8) : Bool :=
  s.bs.held || (s.bs.island == .firstSource && !s.anyMarked && s.eligible g)

/-! ## BLACKOUT (R140 to R142) -/

/-- WAITING with the mode AUTO proceeds at once (R142). -/
def State.applyWaiting (s : State) : State :=
  if s.bs.island == .blackout && s.bs.phase == .waiting && s.mode.mode == .auto then
    s.enterFirstSource
  else s

/-- The end of the clear-down: the settle request, then the WAITING phase (R141). -/
def State.completeClearDown (s : State) : State :=
  let s := (s.modBs fun b => { b with clearDown := none }).shedSettle
  (s.modBs fun b => { b with phase := .waiting }).applyWaiting

/-- Every configured feeder in HELD_OPEN is confirmed open or LOST (R141). -/
def State.clearDownSettled (s : State) : Bool :=
  feeders.all fun i =>
    !((s.fdrCfg i).configured && (s.fdr i).state == .heldOpen)
    || (s.fdr i).openConfirmed || (s.fdrRec i).fresh.isLost

/-- R141 at a moment at which the clear-down may have settled. -/
def State.judgeSettled (s : State) : State :=
  if s.bs.island == .blackout && s.bs.phase == .clearing && s.clearDownSettled then
    s.completeClearDown
  else s

/-- The clear-down is ordered of three blocks, and the CLEARING phase is entered (R140). -/
def State.orderClearDown (s : State) : State :=
  let s := s.modBs fun b =>
    { b with phase := .clearing, clearDown := s.timer (s.act.clearDownTime * 1000) }
  s.shedClearDown.pvClearDown.genClearDown.judgeSettled

/-- Entry to BLACKOUT (R140). -/
def State.enterBlackout (s : State) : State :=
  let s := (s.setIsland .blackout).endUf.emptyStack
  let s := s.modBs fun b =>
    { b with stepPtr := none, permitPtr := none, limitExpired := false, permitDue := false
             held := false, energize := none, stepInterval := none, capacityHold := none
             pvHold := none, pvGap := none, limit := s.timer (s.act.blackStartLimit * 1000) }
  if s.mode.mode == .commissioning then s.modBs fun b => { b with phase := .deferred }
  else s.orderClearDown

/-- The loss of the bus: BLACKOUT where black start is enabled, ABANDONED otherwise (R139). -/
def State.busLost (s : State) : State :=
  if s.act.blackStartEnabled then s.enterBlackout else s.enterAbandoned

/-- The blind-bus condition (R139). -/
def State.blindBus (s : State) : Bool :=
  s.bs.island.live && s.pic.bus.fresh.isLost && gensets.all fun g => !(s.gen g).state.onLine

def State.judgeBlind (s : State) : State := if s.blindBus then s.busLost else s

/-! ## SURVEY (R136 to R138) -/

/-- Entry to SURVEY starts the survey timer; the shedding unit ends the UF event (R130, R136). -/
def State.enterSurvey (s : State) : State :=
  let s := (s.setIsland .survey).endUf
  s.modBs fun b => { b with survey := s.timer s.act.surveyTime, surveyEnded := false }

/-- Survey adoption, then BALANCING with the ramp base at P_S (R138, R51). -/
def State.adopt (s : State) : State :=
  let s := s.genAdopt.shedAdopt.pvAdopt
  let s := s.setIsland .balancing
  { s with bal := { s.bal with rampBase := s.sumPs } }

/-- Whether any configured genset's last tapped report shows its breaker closed. -/
def State.anyClosed (s : State) : Bool :=
  gensets.any fun g => (s.genCfg g).configured && s.genShows g .closed

/-- The judgement of the bus at the end of the survey (R137); made at the survey expiry, a judgement
that gives no change enters ABANDONED. -/
def State.judgeSurvey (s : State) (atExpiry : Bool) : State :=
  let noChange := if atExpiry then s.enterAbandoned else s
  match s.pic.bus.fresh, s.pic.bus.vals with
  | .lost, _ | _, none => if s.anyClosed then s.adopt else noChange
  | _, some v =>
    if s.act.liveThreshold ≤ v.volt then s.adopt
    else if v.volt < s.act.deadThreshold then s.enterBlackout
    else noChange

/-- The bus meter and every configured genset are FRESH (R136). -/
def State.pictureComplete (s : State) : Bool :=
  s.pic.bus.fresh == .fresh
  && gensets.all fun g => !(s.genCfg g).configured || (s.genRec g).fresh == .fresh

/-- A tapped report in SURVEY; `judging` says that it is a BUS or GEN report. -/
def State.surveyTap (s : State) (judging : Bool) : State :=
  if s.bs.surveyEnded then if judging then s.judgeSurvey false else s
  else if s.pictureComplete then
    (s.modBs fun b => { b with surveyEnded := true }).judgeSurvey false
  else s

/-! ## ENERGIZING (R145, R146) -/

def State.enterEnergizing (s : State) : State :=
  let s := s.setIsland .energizing
  s.modBs fun b => { b with energize := s.timer (s.act.energizeTime * 1000) }

/-- The end of ENERGIZING by a failure: FIRST_SOURCE, or ABANDONED where the limit has expired. -/
def State.energizeFailed (s : State) : State :=
  let s := s.modBs fun b => { b with energize := none }
  if s.bs.limitExpired then s.enterAbandoned else s.enterFirstSource

/-- A settled bus: RESTORING (R146). -/
def State.enterRestoring (s : State) : State :=
  let s := (s.setIsland .restoring).genSettled
  s.modBs fun b =>
    { b with energize := none, limit := none, limitExpired := false, stepPtr := none
             stepInterval := s.timer (s.act.stepInterval * 1000) }

/-! ## PV_RETURN (R152, R153) -/

/-- Entry to BALANCING from PV_RETURN: HELD_OPEN feeders are released, the ramp base is kept. -/
def State.endPvReturn (s : State) : State := (s.setIsland .balancing).shedRelease

/-- The configured block of lowest reconnect order above the permit pointer, of those not LOST; the
LOST ones below it are passed over (R153, steps 1 to 3). -/
def State.nextPermit (s : State) : Option (Fin 16) :=
  leastBy (fun b => (s.pvCfg b).reconnect)
    (pvBlocks.filter fun b =>
      (s.pvCfg b).configured && !(s.pvRec b).fresh.isLost &&
      match s.bs.permitPtr with
      | none => true
      | some p => decide (p < (s.pvCfg b).reconnect))

/-- The permit pointer when every block above it has been passed over as LOST. -/
def State.lastOrder (s : State) : Option Nat :=
  (pvBlocks.filter fun b => (s.pvCfg b).configured).foldl
    (fun m b => some (max (m.getD 0) (s.pvCfg b).reconnect)) s.bs.permitPtr

/-- The next block is permitted, or BALANCING is entered (R153). -/
def State.permitNext (s : State) : State :=
  match s.nextPermit with
  | some b =>
    let s := s.modBs fun x => { x with permitPtr := some (s.pvCfg b).reconnect }
    let s := s.pvPermitRequest b
    s.modBs fun x => { x with pvGap := s.timer (s.act.pvGap * 1000) }
  | none => (s.modBs fun x => { x with permitPtr := s.lastOrder }).endPvReturn

/-- A PV hold or PV gap has passed: in COMMISSIONING the permit is due and not given (R154). -/
def State.permitExpiry (s : State) : State :=
  if s.mode.mode == .commissioning then s.modBs fun b => { b with permitDue := true }
  else s.permitNext

/-- The PV hold starts; a PV hold of 0 expires at once (R134, R152). -/
def State.startPvHold (s : State) : State :=
  if s.act.pvHold = 0 then s.permitExpiry
  else s.modBs fun b => { b with pvHold := s.timer (s.act.pvHold * 1000) }

def State.setRampBase (s : State) (x : Int) : State :=
  { s with bal := { s.bal with rampBase := x } }

/-- Entry to PV_RETURN: the ramp base is set to 0 (R51), two timers are cancelled, and the PV hold
starts (R152). -/
def State.enterPvReturn (s : State) : State :=
  (((s.setIsland .pvReturn).setRampBase 0).modBs fun b =>
    { b with stepInterval := none, capacityHold := none, permitPtr := none }).startPvHold

/-! ## RESTORING (R150, R151) -/

/-- The feeders named by a step. -/
def StepCfg.named (x : StepCfg) : List (Fin 32) :=
  [x.place0, x.place1, x.place2, x.place3].filterMap id

/-- The feeders that count towards a step: configured and in HELD_OPEN. They come in the order of the
step's places, which no rule names as the order of their CLOSE orders (DESIGN CHOICE, log entry 36). -/
def State.stepFeeders (s : State) (n : Fin 16) : List (Fin 32) :=
  s.act.steps[n].named.filter fun i =>
    (s.fdrCfg i).configured && (s.fdr i).state == .heldOpen

/-- Whether a feeder of the last executed step still awaits its close. -/
def State.stepAwaits (s : State) : Bool :=
  s.bs.awaiting &&
  match s.bs.stepPtr with
  | none => false
  | some n => s.act.steps[n].named.any fun i =>
      (s.fdr i).state == .heldOpen && (s.fdr i).order == .close

/-- The next step after the pointer that is enabled and not empty. -/
def State.nextStep (s : State) : Option (Fin 16) :=
  stepNumbers.find? fun n =>
    (match s.bs.stepPtr with
     | none => true
     | some p => decide (p < n))
    && s.act.steps[n].enabled && !(s.stepFeeders n).isEmpty

/-- The need of a step (R150). -/
def State.stepNeed (s : State) (n : Fin 16) : Nat :=
  ((s.stepFeeders n).map fun i => (s.fdrCfg i).restartLoad).sum + s.act.reserveBase

/-- Executing a step. -/
def State.executeStep (s : State) (n : Fin 16) : State :=
  let s := s.shedStepClose (s.stepFeeders n)
  s.modBs fun b =>
    { b with stepPtr := some n, awaiting := true, held := false
             stepInterval := s.timer (s.act.stepInterval * 1000) }

/-- The headroom is short of the need (R151). -/
def State.shortStep (s : State) (n : Fin 16) : State :=
  let s := s.modBs fun b => { b with held := true }
  if s.bs.capacityHold.isSome then s
  else if s.startCount != 0 then s
  else if (s.chooseStart fun _ => true).isSome then s.startRequest none false
  else (s.modBs fun b => { b with stepPtr := some n, held := false }).raise .restoreSkipped

/-- The judgement of the next step at a tapped BUS report in RESTORING (R150, R154). -/
def State.judgeStep (s : State) : State :=
  if s.mode.mode == .commissioning || s.stepAwaits then s
  else
    let s := s.modBs fun b => { b with awaiting := false }
    match s.nextStep with
    | none => s.enterPvReturn
    | some n =>
      if s.bs.stepInterval.isSome || !s.bal.fig.valid then s
      else if (s.stepNeed n : Int) ≤ s.bal.fig.h then s.executeStep n
      else s.shortStep n

/-! ## Events -/

/-- A tapped BUS report at the controller. In RESTORING the dead bus of R139 is judged before the step of R150,
and a report that qualifies DEAD judges no step: no rule gives that order (DESIGN CHOICE, log entry 43). -/
def State.bsBusTap (s : State) : State :=
  match s.bs.island with
  | .survey => s.surveyTap true
  | .balancing | .pvReturn => if s.qualifies s.pic.bus.nDead then s.busLost else s
  | .restoring => if s.qualifies s.pic.bus.nDead then s.busLost else s.judgeStep
  | .energizing => if s.qualifies s.pic.bus.nSettled then s.enterRestoring else s
  | .abandoned => if s.qualifies s.pic.bus.nLive then s.enterSurvey else s
  | .unconfigured | .blackout | .firstSource => s

/-- A tapped GEN, SOL or FDR report at the controller. -/
def State.bsGenTap (s : State) : State :=
  if s.bs.island == .survey then s.surveyTap true else s

def State.bsSolTap (s : State) : State :=
  if s.bs.island == .survey then s.surveyTap false else s

def State.bsFdrTap (s : State) : State :=
  if s.bs.island == .survey then s.surveyTap false else s.judgeSettled

/-- A change of a genset's state at the controller: the blind bus (R139), the first source (R143 to
R145), the end of ENERGIZING (R146), the capacity hold (R151). A change acts in the island state in
which it came about, and no longer when the controller has left that state in the same event. -/
def State.onGenChange (s : State) (c : GenChange) : State :=
  if c.island != s.bs.island then s
  else
    let s :=
      if s.bs.island == .restoring && c.new == .online then
        s.modBs fun b => { b with capacityHold := s.timer (2 * s.act.roundPeriod) }
      else s
    match s.bs.island with
    | .balancing | .restoring | .pvReturn =>
      if c.old.onLine && !c.new.onLine then s.judgeBlind else s
    | .firstSource =>
      if c.new == .online && c.marked then s.enterEnergizing
      else if s.eligible c.g && (c.new == .lockout || c.new == .notReady) && s.noneAvailable then
        s.enterAbandoned
      else s.chooseFirstSource
    | .energizing => if c.old == .online && c.marked then s.energizeFailed else s
    | .unconfigured | .survey | .blackout | .abandoned => s

/-- Hands on the changes of genset states, one after the other, with those that they bring about. -/
def drainFuel : Nat → State → State
  | 0, s => { s with seq := { s.seq with changes := [] } }
  | n + 1, s =>
    match s.seq.changes with
    | [] => s
    | c :: cs => drainFuel n ({ s with seq := { s.seq with changes := cs } }.onGenChange c)

def State.drain (s : State) : State := drainFuel 512 s

/-- The black-start limit expires (R147). -/
def State.limitDone (s : State) : State :=
  let s := s.modBs fun b => { b with limit := none }
  match s.bs.island with
  | .blackout | .firstSource => s.enterAbandoned
  | .energizing =>
    if s.act.qualCount ≤ s.pic.bus.nLive then s.modBs fun b => { b with limitExpired := true }
    else s.energizeFailure.enterAbandoned
  | .unconfigured | .survey | .balancing | .restoring | .pvReturn | .abandoned => s

/-- The energize timer expires (R146). -/
def State.energizeDone (s : State) : State :=
  let s := s.modBs fun b => { b with energize := none }
  if s.bs.island == .energizing then s.energizeFailure.energizeFailed else s

/-- The survey timer expires (R136, R137). -/
def State.surveyDone (s : State) : State :=
  let s := s.modBs fun b => { b with survey := none }
  if s.bs.island == .survey then s.judgeSurvey true else s

/-- The clear-down timer expires (R141). -/
def State.clearDownDone (s : State) : State :=
  let s := s.modBs fun b => { b with clearDown := none }
  if s.bs.island == .blackout && s.bs.phase == .clearing then s.completeClearDown else s

/-- Whether the BLACK START directive is one to take: the WAITING phase with the mode AUTO or HOLD, or
ABANDONED (R142, R148). -/
def State.mayBlackStart (s : State) : Bool :=
  (s.bs.island == .blackout && s.bs.phase == .waiting && s.mode.mode != .commissioning)
  || s.bs.island == .abandoned

/-- The BLACK START directive taken (R142, R148). -/
def State.proceed (s : State) : State :=
  if s.bs.island == .abandoned then s.enterBlackout else s.enterFirstSource

/-- A 9-pulse train (R163): taken in WAITING with the mode HOLD, and in ABANDONED. -/
def State.trainProceed (s : State) : State :=
  if (s.bs.island == .blackout && s.bs.phase == .waiting && s.mode.mode == .hold)
      || s.bs.island == .abandoned then s.proceed
  else s

/-- The mode leaves COMMISSIONING: a DEFERRED clear-down, a first-source choice, a due permit
(R165). -/
def State.bsLeaveCommissioning (s : State) : State :=
  if s.bs.island == .blackout && s.bs.phase == .deferred then s.orderClearDown
  else if s.bs.island == .firstSource then s.chooseFirstSource
  else if s.bs.island == .pvReturn && s.bs.permitDue then
    (s.modBs fun b => { b with permitDue := false }).permitNext
  else s

end Sys2Proof.Machine
end

