-- ==== Sys2Proof/Machine/Modes.lean ====
section
/-! DEFINITION. Mode control and the maintenance line (chapter 8). -/

namespace Sys2Proof.Machine

def State.modMode (s : State) (f : ModeControl → ModeControl) : State := { s with mode := f s.mode }

/-- What the neighbours do at a change of mode from `old` (R165). -/
def State.handMode (s : State) (old : Mode) : State :=
  let new := s.mode.mode
  let s :=
    if new == .commissioning && old != .commissioning then
      s.curEnterCommissioning.seqEnterCommissioning.shedEnterCommissioning
    else s
  let s :=
    if old == .commissioning && new != .commissioning then s.bsLeaveCommissioning else s
  let s := if new == .auto && old != .auto then s.applyWaiting else s
  s.drain

/-- The mode and its source become these; MODE_CHANGE is raised where either changes, and the change
of mode is handed on (R157). The notice takes its header before the orders that the neighbours place take
theirs, an order that no rule gives (DEDUCED, log entry 8). -/
def State.applyMode (s : State) (m : Mode) (src : ModeSource) : State :=
  let old := s.mode.mode
  let changed := old != m || s.mode.source != src
  let s := s.modMode fun x => { x with mode := m, source := src }
  if changed then (s.raise .modeChange).handMode old else s

/-- A train of 3 or 5 pulses (R161). -/
def State.selectLine (s : State) (m : Mode) : State :=
  (s.applyMode m .line).modMode fun x => { x with lineTimer := s.timer (s.act.modeHold * 1000) }

/-- The source returns to DIRECTIVE and the mode to the directive mode (R162, R164). -/
def State.returnToDirective (s : State) : State :=
  (s.modMode fun x => { x with lineTimer := none }).applyMode s.mode.dirMode.toMode .directive

/-- RELEASE: the mode, then the lockouts (R162). -/
def State.releaseTrain (s : State) : State := s.returnToDirective.releaseLockouts.drain

/-- The count of a train selects an action (R160). -/
def State.trainAction (s : State) (count : Nat) : State :=
  if count = 3 then s.selectLine .hold
  else if count = 5 then s.selectLine .commissioning
  else if count = 7 then s.releaseTrain
  else if count = 9 then s.trainProceed.drain
  else s

/-- The train timer expires: the count is taken and set to 0 (R160). -/
def State.trainDone (s : State) : State :=
  (s.modMode fun x => { x with train := none, trainCount := 0 }).trainAction s.mode.trainCount

/-- The line goes low (R159). -/
def State.lineLow (s : State) : State :=
  if !s.mode.mntHigh then s
  else if s.mode.armed then
    s.modMode fun x => { x with mntHigh := false, train := none, pulse := s.timer 20 }
  else s.modMode fun x => { x with mntHigh := false }

/-- The line goes high (R159). -/
def State.lineHigh (s : State) : State :=
  if s.mode.mntHigh then s
  else if !s.mode.armed then s.modMode fun x => { x with mntHigh := true, armed := true }
  else if s.mode.pulseMark then
    s.modMode fun x => { x with mntHigh := true, pulseMark := false, train := s.timer 600 }
  else
    s.modMode fun x =>
      { x with mntHigh := true, pulse := none
               train := if 0 < x.trainCount then s.timer 600 else x.train }

/-- The line has stayed low for 20 ms: a pulse (R159). -/
def State.pulseDone (s : State) : State :=
  s.modMode fun x =>
    { x with pulse := none, pulseMark := true, trainCount := min 15 (x.trainCount + 1) }

end Sys2Proof.Machine
end

