-- ==== Sys2Proof/Machine/Operands.lean ====
section
/-! DEFINITION. The operand forms of the directives: the tables with their sizes, the records of 11.5
read into bytes and formed from bytes with the clamping of R170, and the image of a bank. -/

namespace Sys2Proof.Machine

/-! ## Tables and record sizes (chapter 9, 11.5) -/

/-- The size in bytes of one record of table `t`; 0 for a number that is no table's. -/
def tableSize (t : Nat) : Nat := [0, 2, 26, 5, 5, 1, 7, 5, 2, 8].getD t 0

/-- The number of records of table `t`; 0 for a number that is no table's. -/
def tableCount (t : Nat) : Nat := [0, 64, 8, 16, 32, 32, 6, 16, 40, 1].getD t 0

/-- Whether a number is one of tables 1 to 9. -/
def isTable (t : Nat) : Bool := decide (1 ≤ t) && decide (t ≤ 9)

/-! ## Numeric fields (R170) -/

/-- A value raised to the least of its range, or lowered to the greatest. -/
def clampNat (lo hi v : Nat) : Nat := min hi (max lo v)

/-- A numeric field of a record: where it stands, whether it takes two bytes, and its range. -/
structure NumField where
  off  : Nat
  wide : Bool
  lo   : Nat
  hi   : Nat
  deriving DecidableEq, Repr

/-- The value written. -/
def NumField.raw (f : NumField) (r : List Byte) : Nat :=
  if f.wide then at16 r f.off else (at8 r f.off).toNat

/-- The value stored. -/
def NumField.value (f : NumField) (r : List Byte) : Nat := clampNat f.lo f.hi (f.raw r)

/-- Whether one of these fields of a record is clamped. -/
def anyClamped (fs : List NumField) (r : List Byte) : Bool := fs.any fun f => f.value r != f.raw r

def genRating : NumField := ⟨1, true, 100, 4000⟩
def genMinLoad : NumField := ⟨3, true, 0, 3999⟩
def genStartRank : NumField := ⟨5, false, 0, 7⟩
def genMaxAttempts : NumField := ⟨7, false, 1, 3⟩
def genUnloadThreshold : NumField := ⟨8, true, 0, 1000⟩
def genCrankTime : NumField := ⟨10, true, 1, 60⟩
def genRestTime : NumField := ⟨12, true, 1, 120⟩
def genWarmTime : NumField := ⟨14, true, 0, 600⟩
def genSyncTime : NumField := ⟨16, true, 1, 120⟩
def genMinRun : NumField := ⟨18, true, 0, 7200⟩
def genUnloadTime : NumField := ⟨20, true, 1, 300⟩
def genCoolTime : NumField := ⟨22, true, 0, 1800⟩
def genStopTime : NumField := ⟨24, true, 1, 120⟩

def genFields : List NumField :=
  [genRating, genMinLoad, genStartRank, genMaxAttempts, genUnloadThreshold, genCrankTime,
   genRestTime, genWarmTime, genSyncTime, genMinRun, genUnloadTime, genCoolTime, genStopTime]

/-- The least rating of a PV block stands in no chapter (log entry 21). -/
def pvRating : NumField := ⟨1, true, Config.pvRatingLeast, 4000⟩
def pvRank : NumField := ⟨3, false, 0, 3⟩
def pvReconnect : NumField := ⟨4, false, 0, 15⟩

def fdrCold : NumField := ⟨1, true, 1000, 3000⟩
def fdrRestart : NumField := ⟨3, true, 0, 4000⟩

def stageThreshold : NumField := ⟨1, true, 10, 5000⟩
def stageDelay : NumField := ⟨3, true, 0, 5000⟩
def stageAmount : NumField := ⟨5, true, 0, 20000⟩

/-- The fields of the record of table 8 at index `i` (R192): the records 6 and 29 hold two. -/
def paramFields (i : Nat) : List NumField :=
  if i = 6 then [⟨0, false, 0, 63⟩, ⟨1, false, 0, 63⟩]
  else if i = 29 then [⟨0, false, 0, 9⟩, ⟨1, false, 0, 9⟩]
  else
    let r := paramRanges.getD i (0, 65535)
    [⟨0, true, r.1, r.2⟩]

/-- The value of a record of table 8 from its stored fields. -/
def paramValue (i : Nat) (r : List Byte) : Nat :=
  match paramFields i with
  | [a, b] => a.value r * 256 + b.value r
  | [a] => a.value r
  | _ => 0

/-! ## Index and code fields -/

/-- A role with a unit index (R170); with role NONE the index is not judged. -/
def roleOfBytes (role index : Byte) : Option (Option UnitRef) :=
  if role == 0 then some none
  else if role == 1 then
    if h : index.toNat < 8 then some (some (.genset ⟨index.toNat, h⟩)) else none
  else if role == 2 then
    if h : index.toNat < 16 then some (some (.pv ⟨index.toNat, h⟩)) else none
  else if role == 3 then
    if h : index.toNat < 32 then some (some (.feeder ⟨index.toNat, h⟩)) else none
  else if role == 4 then if index == 0 then some (some .busmeter) else none
  else none

/-- The role code and the index of a unit. -/
def roleBytes : UnitRef → List Byte
  | .genset g => [1, byte g.val]
  | .pv b => [2, byte b.val]
  | .feeder f => [3, byte f.val]
  | .busmeter => [4, 0]

/-- A feeder index, or FF hex for the end marker or an empty place. -/
def placeOfByte (b : Byte) : Option (Option (Fin 32)) :=
  if b == 0xFF then some none
  else if h : b.toNat < 32 then some (some ⟨b.toNat, h⟩) else none

def placeByte (x : Option (Fin 32)) : Byte := indexByte (x.map Fin.val)

/-! ## Records to bytes -/

def stationBytes : Option UnitRef → List Byte
  | none => [0, 0]
  | some u => roleBytes u

def GenCfg.bytes (c : GenCfg) : List Byte :=
  [flagByte c.configured] ++ be16 c.rating ++ be16 c.minLoad
  ++ [byte c.startRank, flagByte c.eligible, byte c.maxAttempts] ++ be16 c.unloadThreshold
  ++ be16 c.crankTime ++ be16 c.restTime ++ be16 c.warmTime ++ be16 c.syncTime ++ be16 c.minRun
  ++ be16 c.unloadTime ++ be16 c.coolTime ++ be16 c.stopTime

def PvCfg.bytes (c : PvCfg) : List Byte :=
  [flagByte c.configured] ++ be16 c.rating ++ [byte c.rank, byte c.reconnect]

def FdrCfg.bytes (c : FdrCfg) : List Byte :=
  [flagByte c.configured] ++ be16 c.coldFactor ++ be16 c.restartLoad

def StageCfg.bytes (c : StageCfg) : List Byte :=
  [flagByte c.enabled] ++ be16 c.threshold ++ be16 c.delay ++ be16 c.amount

def StepCfg.bytes (c : StepCfg) : List Byte :=
  [flagByte c.enabled, placeByte c.place0, placeByte c.place1, placeByte c.place2,
   placeByte c.place3]

/-- The bytes of record `i` of table `t`, empty where there is no such record. -/
def Bank.readRecord (b : Bank) (t i : Nat) : List Byte :=
  match t with
  | 1 => (b.station[i]?.map stationBytes).getD []
  | 2 => (b.genset[i]?.map GenCfg.bytes).getD []
  | 3 => (b.pv[i]?.map PvCfg.bytes).getD []
  | 4 => (b.feeder[i]?.map FdrCfg.bytes).getD []
  | 5 => (b.shedOrder[i]?.map fun x => [placeByte x]).getD []
  | 6 => (b.stages[i]?.map StageCfg.bytes).getD []
  | 7 => (b.steps[i]?.map StepCfg.bytes).getD []
  | 8 => (b.params[i]?.map be16).getD []
  | 9 => if i = 0 then b.guards.toList.map flagByte else []
  | _ => []

/-! ## Records from bytes -/

def genOfBytes (r : List Byte) : GenCfg where
  configured      := isYes (at8 r 0)
  rating          := genRating.value r
  minLoad         := genMinLoad.value r
  startRank       := genStartRank.value r
  eligible        := isYes (at8 r 6)
  maxAttempts     := genMaxAttempts.value r
  unloadThreshold := genUnloadThreshold.value r
  crankTime       := genCrankTime.value r
  restTime        := genRestTime.value r
  warmTime        := genWarmTime.value r
  syncTime        := genSyncTime.value r
  minRun          := genMinRun.value r
  unloadTime      := genUnloadTime.value r
  coolTime        := genCoolTime.value r
  stopTime        := genStopTime.value r

def pvOfBytes (r : List Byte) : PvCfg :=
  ⟨isYes (at8 r 0), pvRating.value r, pvRank.value r, pvReconnect.value r⟩

def fdrOfBytes (r : List Byte) : FdrCfg := ⟨isYes (at8 r 0), fdrCold.value r, fdrRestart.value r⟩

def stageOfBytes (r : List Byte) : StageCfg :=
  ⟨isYes (at8 r 0), stageThreshold.value r, stageDelay.value r, stageAmount.value r⟩

def stepOfBytes (r : List Byte) : Option StepCfg :=
  match placeOfByte (at8 r 1), placeOfByte (at8 r 2), placeOfByte (at8 r 3),
      placeOfByte (at8 r 4) with
  | some a, some b, some c, some d => some ⟨isYes (at8 r 0), a, b, c, d⟩
  | _, _, _, _ => none

def guardsOfBytes (r : List Byte) : Vector Bool 8 := Vector.ofFn fun i => isYes (at8 r i.val)

/-- What a write of a record makes: the bank, and whether a numeric field has been clamped. -/
structure Written where
  bank    : Bank
  clamped : Bool
  deriving DecidableEq, Repr

/-- The record `r`, of the table's size, written whole into record `i` of table `t`. There is no
result where an index or code field holds a value outside its set (check 5 of R169). -/
def Bank.writeRecord (b : Bank) (t i : Nat) (r : List Byte) : Option Written :=
  match t with
  | 1 => (roleOfBytes (at8 r 0) (at8 r 1)).map fun u =>
      ⟨{ b with station := b.station.setIfInBounds i u }, false⟩
  | 2 => some ⟨{ b with genset := b.genset.setIfInBounds i (genOfBytes r) }, anyClamped genFields r⟩
  | 3 => some ⟨{ b with pv := b.pv.setIfInBounds i (pvOfBytes r) },
      anyClamped [pvRating, pvRank, pvReconnect] r⟩
  | 4 => some ⟨{ b with feeder := b.feeder.setIfInBounds i (fdrOfBytes r) },
      anyClamped [fdrCold, fdrRestart] r⟩
  | 5 => (placeOfByte (at8 r 0)).map fun x =>
      ⟨{ b with shedOrder := b.shedOrder.setIfInBounds i x }, false⟩
  | 6 => some ⟨{ b with stages := b.stages.setIfInBounds i (stageOfBytes r) },
      anyClamped [stageThreshold, stageDelay, stageAmount] r⟩
  | 7 => (stepOfBytes r).map fun x => ⟨{ b with steps := b.steps.setIfInBounds i x }, false⟩
  | 8 => some ⟨{ b with params := b.params.setIfInBounds i (paramValue i r) },
      anyClamped (paramFields i) r⟩
  | 9 => some ⟨{ b with guards := guardsOfBytes r }, false⟩
  | _ => none

/-- Every record of a table at its empty values (R172). -/
def Bank.clearTable (b : Bank) (t : Nat) : Bank :=
  match t with
  | 1 => { b with station := Bank.empty.station }
  | 2 => { b with genset := Bank.empty.genset }
  | 3 => { b with pv := Bank.empty.pv }
  | 4 => { b with feeder := Bank.empty.feeder }
  | 5 => { b with shedOrder := Bank.empty.shedOrder }
  | 6 => { b with stages := Bank.empty.stages }
  | 7 => { b with steps := Bank.empty.steps }
  | 8 => { b with params := Bank.empty.params }
  | 9 => { b with guards := Bank.empty.guards }
  | _ => b

/-! ## The image of a bank (11.5) -/

/-- The tables with their record indices, in table order and record order. -/
def imagePlaces : List (Nat × Nat) :=
  [1, 2, 3, 4, 5, 6, 7, 8, 9].flatMap fun t => (List.range (tableCount t)).map fun i => (t, i)

/-- The store image of a bank: 818 bytes. -/
def Bank.image (b : Bank) : List Byte := imagePlaces.flatMap fun p => b.readRecord p.1 p.2

/-- The records of an image, taken in turn into a bank. -/
def takeImage : List (Nat × Nat) → List Byte → Bank → Option Bank
  | [], _, b => some b
  | p :: ps, bs, b =>
    match b.writeRecord p.1 p.2 (bs.take (tableSize p.1)) with
    | none => none
    | some w => takeImage ps (bs.drop (tableSize p.1)) w.bank

/-- The bank of an image. -/
def Bank.ofImage (bs : List Byte) : Option Bank := takeImage imagePlaces bs Bank.empty

/-! ## Units of READ UNIT (R184) -/

/-- The unit of a kind and an index; none for kind NONE and outside the ranges. -/
def unitOfBytes (kind index : Byte) : Option UnitRef := (roleOfBytes kind index).join

end Sys2Proof.Machine
end

