-- ==== Sys2Proof/Machine/Pictures.lean ====
section
/-! DEFINITION. The picture store: role and form of reports, tapping, clamping, freshness and
qualification, and the tap and freshness events handed to the jobs (chapter 2). -/

namespace Sys2Proof.Machine

/-! ## Role and form (R25, R26) -/

/-- The unit that a report of kind `k` from `src` is tapped for. -/
def State.reportUnit (s : State) (src : Addr) (k : Byte) : Option UnitRef :=
  match s.act.mapped src with
  | none => none
  | some u =>
    let agrees := match u with
      | .genset _ => k == kindGen
      | .pv _ => k == kindSol
      | .feeder _ => k == kindFdr
      | .busmeter => k == kindBus
    if agrees then some u else none

/-- The form of a report of each kind. -/
def reportFormOk (u : UnitRef) (p : List Byte) : Bool :=
  match u with
  | .genset _ =>
    p.length == 7 && (Engine.ofCode (at8 p 0)).isSome && (Breaker.ofCode (at8 p 1)).isSome
  | .pv _ => p.length == 9
  | .feeder _ => p.length == 5 && (Breaker.ofCode (at8 p 0)).isSome
  | .busmeter => p.length == 4

/-! ## Clamping (R28 to R31) -/

/-- A power limited to 0 below and to `top` above. -/
def clampKw (raw : Int) (top : Nat) : Nat := (min raw top).toNat

/-- The clamped available: raised to the clamped output, then lowered to the rating (R29). -/
def clampAvail (raw : Int) (out rating : Nat) : Nat := min rating (max out raw.toNat)

def clampDev (raw : Int) : Int := max (-5000) (min 5000 raw)

/-- A GEN payload (11.3), clamped by the rating. A code outside its set has been refused by form. -/
def genValues (p : List Byte) (rating : Nat) : GenValues where
  engine   := (Engine.ofCode (at8 p 0)).getD .stopped
  breaker  := (Breaker.ofCode (at8 p 1)).getD .open
  inAuto   := isYes (at8 p 2)
  rawOut   := at16i p 3
  out      := clampKw (at16i p 3) rating
  echoCode := at8 p 5
  echoTag  := at8 p 6

def pvValues (p : List Byte) (rating : Nat) : PvValues where
  connected := isYes (at8 p 0)
  rawOut    := at16i p 1
  out       := clampKw (at16i p 1) rating
  rawAvail  := at16i p 3
  avail     := clampAvail (at16i p 3) (clampKw (at16i p 1) rating) rating
  echoCode  := at8 p 5
  echoTag   := at8 p 6
  echoCap   := at16 p 7

def fdrValues (p : List Byte) : FdrValues where
  breaker  := (Breaker.ofCode (at8 p 0)).getD .open
  rawLoad  := at16i p 1
  load     := clampKw (at16i p 1) 4000
  echoCode := at8 p 3
  echoTag  := at8 p 4

def busValues (p : List Byte) : BusValues where
  rawDev  := at16i p 0
  dev     := clampDev (at16i p 0)
  rawVolt := at16 p 2
  volt    := min 1500 (at16 p 2)

/-! ## Qualification (R37) -/

/-- A counter after a report: one more, up to 8, where the report shows its condition; else 0. -/
def count (n : Nat) (shown : Bool) : Nat := if shown then min 8 (n + 1) else 0

/-- SETTLED: live, and the deviation within the settle band. -/
def settledShown (b : Bank) (v : BusValues) : Bool :=
  decide (b.liveThreshold ≤ v.volt) && decide (-(b.settleBand : Int) ≤ v.dev)
  && decide (v.dev ≤ b.settleBand)

/-! ## Tapping (R28 to R33, R37) -/

def tapGenRec (v : GenValues) (late : Timer) (r : GenRec) : GenRec where
  vals       := some v
  lastLoaded := if v.breaker == .closed then some v.out else r.lastLoaded
  fresh      := .fresh
  late       := late
  nRunning   := count r.nRunning (v.engine == .running)
  nStopped   := count r.nStopped (v.engine == .stopped)
  nClosed    := count r.nClosed (v.breaker == .closed)
  nOpen      := count r.nOpen (v.breaker == .open)

def tapBusRec (b : Bank) (v : BusValues) (late : Timer) (r : BusRec) : BusRec where
  vals     := some v
  fresh    := .fresh
  late     := late
  nDead    := count r.nDead (decide (v.volt < b.deadThreshold))
  nLive    := count r.nLive (decide (b.liveThreshold ≤ v.volt))
  nSettled := count r.nSettled (settledShown b v)

/-- The record of the unit takes the report. -/
def State.tapRecord (s : State) (u : UnitRef) (p : List Byte) : State :=
  let late := s.timer s.act.lateTimeout
  match u with
  | .genset g => s.modGenRec g (tapGenRec (genValues p (s.genCfg g).rating) late)
  | .pv b => s.modPvRec b fun _ => ⟨some (pvValues p (s.pvCfg b).rating), .fresh, late⟩
  | .feeder i => s.modFdrRec i fun _ => ⟨some (fdrValues p), .fresh, late⟩
  | .busmeter => s.modBusRec (tapBusRec s.act (busValues p) late)

/-- The tap event at the jobs that own the record's role, in the order of the table of R40; the
changes of genset states are handed on before the echo is judged and after it (R103). -/
def State.handTap (s : State) (u : UnitRef) : State :=
  match u with
  | .genset g =>
    match (s.genRec g).vals with
    | none => s
    | some v => (((s.genTransition g v).drain.genEcho g v).drain).bsGenTap.drain
  | .pv b => (s.curTap b).bsSolTap.drain
  | .feeder i => (s.shedFdrTap i).bsFdrTap.drain
  | .busmeter =>
    match s.pic.bus.vals with
    | none => s
    | some v => ((s.shedBusTap v.dev).seqBusTap).bsBusTap.drain

/-- An accepted report: its role, its form, then the tap (R25, R26, R40). -/
def State.takeReport (s : State) (src : Addr) (k : Byte) (p : List Byte) : State :=
  match s.reportUnit src k with
  | none => { s with pic := { s.pic with roleMismatch := s.pic.roleMismatch + 1 } }
  | some u =>
    if reportFormOk u p then (s.tapRecord u p).handTap u
    else { s with pic := { s.pic with formCount := s.pic.formCount + 1 } }

/-! ## Freshness (R34, R35, R42) -/

def State.freshness (s : State) : UnitRef → Freshness
  | .genset g => (s.genRec g).fresh
  | .pv b => (s.pvRec b).fresh
  | .feeder i => (s.fdrRec i).fresh
  | .busmeter => s.pic.bus.fresh

def State.lateTimer (s : State) : UnitRef → Timer
  | .genset g => (s.genRec g).late
  | .pv b => (s.pvRec b).late
  | .feeder i => (s.fdrRec i).late
  | .busmeter => s.pic.bus.late

/-- The record becomes LATE; the late timer is not started again. -/
def State.recordLate (s : State) : UnitRef → State
  | .genset g => s.modGenRec g fun r => { r with fresh := .late, late := none }
  | .pv b => s.modPvRec b fun r => { r with fresh := .late, late := none }
  | .feeder i => s.modFdrRec i fun r => { r with fresh := .late, late := none }
  | .busmeter => s.modBusRec fun r => { r with fresh := .late, late := none }

/-- The record becomes LOST: its late timer is cancelled, its counters are set to 0, its values are
kept. -/
def State.recordLost (s : State) : UnitRef → State
  | .genset g => s.modGenRec g fun r =>
      { r with fresh := .lost, late := none, nRunning := 0, nStopped := 0, nClosed := 0, nOpen := 0 }
  | .pv b => s.modPvRec b fun r => { r with fresh := .lost, late := none }
  | .feeder i => s.modFdrRec i fun r => { r with fresh := .lost, late := none }
  | .busmeter => s.modBusRec fun r =>
      { r with fresh := .lost, late := none, nDead := 0, nLive := 0, nSettled := 0 }

/-- The freshness event to LOST at the jobs (R42). -/
def State.handLost (s : State) (u : UnitRef) : State :=
  match u with
  | .genset g => (s.genGoesLost g).drain
  | .pv _ => s
  | .feeder _ => s.judgeSettled.drain
  | .busmeter => s.shedBusLost.judgeBlind.drain

/-- A late timer expires (R34); the bus meter's change is handed to the shedding unit (R117). -/
def State.lateDone (s : State) (u : UnitRef) : State :=
  if s.freshness u == .fresh then
    let s := s.recordLate u
    match u with
    | .busmeter => s.shedBusLate
    | .genset _ | .pv _ | .feeder _ => s
  else s

end Sys2Proof.Machine
end

