-- ==== Sys2Proof/Machine/Tables.lean ====
section
/-! DEFINITION. The table bank and the setting store: guards, writing the shadow, the commit checks,
the commit boundary and what a commit does at each neighbour, the store save (chapter 9). -/

namespace Sys2Proof.Machine

def State.modBank (s : State) (f : TableBank → TableBank) : State := { s with bank := f s.bank }

/-! ## Writing the shadow (R168, R169, R172) -/

/-- Whether a table is guarded: table 9 always, the others by the directory of the active bank. -/
def State.guarded (s : State) (t : Nat) : Bool :=
  t == 9 || (s.act.guards.toList.getD (t - 1) false)

/-- Checks 1 and 2 of R169. -/
def State.judgeTable (s : State) (t : Nat) : Option ResultCode :=
  if !isTable t then some .range
  else if s.guarded t && s.mode.mode != .commissioning then some .guarded
  else none

/-- The answer of a table directive: its result, the clamped mark, and the shadow that it leaves. -/
structure TableAnswer where
  result  : ResultCode
  clamped : Bool
  shadow  : Bank
  deriving DecidableEq, Repr

/-- WRITE TABLE (R169). -/
def State.judgeWrite (s : State) (t i : Nat) (r : List Byte) : TableAnswer :=
  match s.judgeTable t with
  | some x => ⟨x, false, s.bank.shadow⟩
  | none =>
    if r.length != tableSize t then ⟨.length, false, s.bank.shadow⟩
    else if tableCount t ≤ i then ⟨.range, false, s.bank.shadow⟩
    else
      match s.bank.shadow.writeRecord t i r with
      | none => ⟨.range, false, s.bank.shadow⟩
      | some w => ⟨.done, w.clamped, w.bank⟩

/-- CLEAR SHADOW (R172). -/
def State.judgeClear (s : State) (t : Nat) : TableAnswer :=
  match s.judgeTable t with
  | some x => ⟨x, false, s.bank.shadow⟩
  | none => ⟨.done, false, s.bank.shadow.clearTable t⟩

/-! ## The commit checks (R174) -/

/-- A failed check: its number, and the index reported. -/
structure CheckFailure where
  check : Nat
  index : Nat
  deriving DecidableEq, Repr

/-- Of several places at which a check fails, the lowest is reported, where R174 names none (DESIGN CHOICE,
log entry 38). -/
def failAt {n : Nat} (check : Nat) (x : Option (Fin n)) : Option CheckFailure :=
  x.map fun i => ⟨check, i.val⟩

/-- The first position of a list whose member stands at an earlier position too. That of several such
positions the first is reported is a DESIGN CHOICE, log entry 38. -/
def firstRepeat {α : Type} [DecidableEq α] : List α → List α → Nat → Option Nat
  | _, [], _ => none
  | seen, x :: xs, i => if seen.contains x then some i else firstRepeat (x :: seen) xs (i + 1)

def Bank.check1 (b : Bank) (own : Option Addr) : Option CheckFailure :=
  failAt 1 (addresses.find? fun a => (a.val == 63 || own == some a) && (b.station[a]).isSome)

def Bank.check2 (b : Bank) : Option CheckFailure :=
  failAt 2 (addresses.find? fun a =>
    (b.station[a]).isSome && addresses.any fun k => decide (k < a) && b.station[k] == b.station[a])

def Bank.check3 (b : Bank) : Option CheckFailure :=
  failAt 3 (gensets.find? fun g => b.genset[g].configured && (b.stationOf (.genset g)).isNone)

def Bank.check4 (b : Bank) : Option CheckFailure :=
  failAt 4 (pvBlocks.find? fun i => b.pv[i].configured && (b.stationOf (.pv i)).isNone)

def Bank.check5 (b : Bank) : Option CheckFailure :=
  failAt 5 (feeders.find? fun f => b.feeder[f].configured && (b.stationOf (.feeder f)).isNone)

def Bank.check6 (b : Bank) : Option CheckFailure :=
  (firstRepeat [] b.shedList 0).map fun i => ⟨6, i⟩

/-- The feeders that the steps before step `n` name. -/
def Bank.namedBefore (b : Bank) (n : Fin 16) : List (Fin 32) :=
  (stepNumbers.filter fun k => decide (k < n)).flatMap fun k => (b.steps[k]).named

def Bank.check7 (b : Bank) : Option CheckFailure :=
  failAt 7 (stepNumbers.find? fun n => (firstRepeat (b.namedBefore n) (b.steps[n]).named 0).isSome)

def Bank.check8 (b : Bank) : Option CheckFailure :=
  failAt 8 (stageNumbers.find? fun n =>
    b.stages[n].enabled && stageNumbers.any fun k =>
      decide (k < n) && b.stages[k].enabled && decide (b.stages[n].threshold ≤ b.stages[k].threshold))

def Bank.check9 (b : Bank) : Option CheckFailure :=
  failAt 9 (gensets.find? fun g =>
    b.genset[g].configured && decide (b.genset[g].rating ≤ b.genset[g].minLoad))

def Bank.check10 (b : Bank) : Option CheckFailure :=
  failAt 10 (gensets.find? fun g =>
    b.genset[g].configured && gensets.any fun k =>
      decide (k < g) && b.genset[k].configured && b.genset[k].startRank == b.genset[g].startRank)

def Bank.check11 (b : Bank) : Option CheckFailure :=
  failAt 11 (pvBlocks.find? fun i =>
    b.pv[i].configured && pvBlocks.any fun k =>
      decide (k < i) && b.pv[k].configured && b.pv[k].reconnect == b.pv[i].reconnect)

def Bank.check12 (b : Bank) : Option CheckFailure :=
  if b.blackStartEnabled && !gensets.any fun g => b.genset[g].configured && b.genset[g].eligible then
    some ⟨12, 0⟩
  else none

def Bank.check13 (b : Bank) (own : Option Addr) : Option CheckFailure :=
  if own == some b.super1 then some ⟨13, 1⟩
  else if own == some b.super2 then some ⟨13, 2⟩
  else none

/-- The checks of R174 in number order, with the part's own address where it has one. -/
def Bank.commitCheck (b : Bank) (own : Option Addr) : Option CheckFailure :=
  [b.check1 own, b.check2, b.check3, b.check4, b.check5, b.check6, b.check7, b.check8, b.check9,
   b.check10, b.check11, b.check12, b.check13 own].findSome? id

/-! ## A commit taking effect (R176) -/

/-- Every unit that the part can hold a record for. -/
def allUnits : List UnitRef :=
  gensets.map UnitRef.genset ++ pvBlocks.map UnitRef.pv ++ feeders.map UnitRef.feeder ++ [.busmeter]

/-- Configured before, and not after. -/
def removedBy (old new : Bank) (u : UnitRef) : Bool := old.configured u && !new.configured u

/-- Not configured before, and configured after. -/
def addedBy (old new : Bank) (u : UnitRef) : Bool := !old.configured u && new.configured u

/-- Configured before and after, at another address. -/
def movedBy (old new : Bank) (u : UnitRef) : Bool :=
  old.configured u && new.configured u && old.stationOf u != new.stationOf u

/-- The slots at the old addresses of removed and moved units are emptied (R21, R78, R108, R131). -/
def State.emptyOldSlots (s : State) (old new : Bank) : State :=
  forEach allUnits (fun u s =>
    if removedBy old new u || movedBy old new u then
      match old.stationOf u with
      | none => s
      | some a => s.emptySlot a
    else s) s

/-- A pending OPEN of a feeder on the stack that leaves the shed order is emptied (R131). -/
def State.emptyOffOrder (s : State) (old new : Bank) : State :=
  forEach s.shed.stack (fun e s =>
    if old.shedList.contains e.feeder && !new.shedList.contains e.feeder then
      match s.act.stationOf (.feeder e.feeder) with
      | none => s
      | some a =>
        match s.slot a with
        | none => s
        | some o => if o.code == .open then s.emptySlot a else s
    else s) s

/-- The genset record of the picture formed again with the new rating (R32). -/
def GenRec.reclamp (r : GenRec) (rating : Nat) : GenRec :=
  { r with
    vals := r.vals.map fun v => { v with out := clampKw v.rawOut rating }
    lastLoaded := r.lastLoaded.map fun x => min x rating }

def PvRec.reclamp (r : PvRec) (rating : Nat) : PvRec :=
  { r with vals := r.vals.map fun v =>
      { v with
        out := clampKw v.rawOut rating
        avail := clampAvail v.rawAvail (clampKw v.rawOut rating) rating } }

/-- The picture store at the boundary, for one unit (R27, R32). -/
def State.pictureUnit (s : State) (old new : Bank) (u : UnitRef) : State :=
  if old.configured u != new.configured u then
    match u with
    | .genset g => s.modGenRec g fun _ => GenRec.reset
    | .pv b => s.modPvRec b fun _ => PvRec.reset
    | .feeder f => s.modFdrRec f fun _ => FdrRec.reset
    | .busmeter => s.modBusRec fun _ => BusRec.reset
  else
    let s := if movedBy old new u then s.recordLost u else s
    if !new.configured u then s
    else
      match u with
      | .genset g =>
        if old.genset[g].rating == new.genset[g].rating then s
        else s.modGenRec g fun r => r.reclamp new.genset[g].rating
      | .pv b =>
        if old.pv[b].rating == new.pv[b].rating then s
        else s.modPvRec b fun r => r.reclamp new.pv[b].rating
      | .feeder _ | .busmeter => s

/-- The allocator's part of a block that the commit removes or configures (R78). -/
def State.commitPv (s : State) (old new : Bank) (b : Fin 16) : State :=
  if old.configured (.pv b) != new.configured (.pv b) then s.modPv b fun _ => PvJob.reset else s

/-- The attempt count where a commit lowers max attempts below it (R108): any other commit leaves a count
as it is, one that a rest expiry has carried above max attempts (R86) too. -/
def lowerAttempts (old new attempts : Nat) : Nat := if new < old then min attempts new else attempts

/-- The sequencer's part of one set (R108). A set that is removed leaves its state without a trip;
one that is moved and was not LOST has gone LOST, which is handed to it (R42). -/
def State.commitGen (s : State) (old new : Bank) (wasLost : Bool) (g : Fin 8) : State :=
  if removedBy old new (.genset g) then
    (s.setGenState g .notReady false).modGen g fun _ => GenJob.reset
  else if addedBy old new (.genset g) then s.modGen g fun _ => GenJob.reset
  else if old.configured (.genset g) then
    let s := s.modGen g fun j => { j with
      attempts := lowerAttempts old.genset[g].maxAttempts new.genset[g].maxAttempts j.attempts }
    if movedBy old new (.genset g) && !wasLost then s.genGoesLost g else s
  else s

/-- The shedding unit's part of one feeder that the commit removes or configures (R131); a feeder newly
configured stands nowhere on the stack. -/
def State.commitFdr (s : State) (old new : Bank) (f : Fin 32) : State :=
  if old.configured (.feeder f) != new.configured (.feeder f) then
    (s.unstack f).modFdr f fun _ => FdrJob.reset
  else s

/-- The bus meter goes LOST by the commit (R27, R42, R155). -/
def busLostBy (s : State) (old new : Bank) : Bool :=
  (removedBy old new .busmeter || movedBy old new .busmeter) && !s.pic.bus.fresh.isLost

/-- The banks and marks of the table bank (R176). -/
def State.copyShadow (s : State) : State :=
  s.modBank fun b =>
    { b with active := b.shadow, configured := true, pending := false, last := .done }

/-- The jobs' records at the boundary; `s` is the state before it. -/
def State.commitJobs (s t : State) (old new : Bank) : State :=
  let t := forEach pvBlocks (fun b t => t.commitPv old new b) t
  let t := forEach gensets (fun g t => t.commitGen old new (s.genLost g) g) t
  let t := endStarts 8 t
  let t := forEach feeders (fun f t => t.commitFdr old new f) t
  if busLostBy s old new then t.shedBusLost else t

/-- The controller at the boundary (R155): SURVEY from UNCONFIGURED; else what the changes of the sets
and of the bus meter bring about. -/
def State.commitController (s t : State) (old new : Bank) : State :=
  if s.bs.island == .unconfigured then t.enterSurvey.drain
  else if busLostBy s old new then t.judgeBlind.drain
  else t.drain

/-- The commit takes effect (R176, R177). -/
def State.commitEffect (s : State) : State :=
  let old := s.bank.active
  let new := s.bank.shadow
  let t := (s.copyShadow.emptyOldSlots old new).emptyOffOrder old new
  let t := forEach allUnits (fun u t => t.pictureUnit old new u) t
  let t := (s.commitController (s.commitJobs t old new) old new).raise .commitDone
  { t with store := { t.store with cond := .saving, whole := false } }

/-- The pending commit is judged at its boundary (R175). -/
def State.commitBoundary (s : State) : State :=
  if !s.bank.pending then s
  else if (s.bs.island == .balancing || s.bs.island == .unconfigured) && !s.shed.ufActive then
    match s.bank.shadow.commitCheck s.ownAddr with
    | none => s.commitEffect
    | some x => s.modBank fun b =>
        { b with pending := false, last := .dropped x.check x.index }
  else s

/-- The answer of COMMIT: its result, and the check number and index of INVALID (R173). -/
structure CommitAnswer where
  result : ResultCode
  data   : List Byte
  deriving DecidableEq, Repr

/-- COMMIT (R173). -/
def State.judgeCommit (s : State) : CommitAnswer :=
  if s.store.cond == .saving then ⟨.busy, []⟩
  else
    match s.bank.shadow.commitCheck s.ownAddr with
    | some x => ⟨.invalid, [byte x.check, byte x.index]⟩
    | none => ⟨.pending, []⟩

/-! ## The setting store (R177) -/

/-- The save ends: the image of the active bank and its check word stand in the store. -/
def State.saveDone (s : State) : State :=
  if s.store.cond == .saving then
    { s with store := ⟨.valid, true, s.bank.active.image, crc16 s.bank.active.image⟩ }
  else s

/-- The bank that a power-up loads: the image left whole and agreeing with its check word, and passing
the checks against the address just sampled (R178). -/
def Store.load (x : Store) (own : Option Addr) : Option Bank :=
  if x.whole && x.check == crc16 x.image then
    (Bank.ofImage x.image).filter fun b => (b.commitCheck own).isNone
  else none

end Sys2Proof.Machine
end

