-- ==== Sys2Proof/Machine/Reset.lean ====
section
/-! DEFINITION. Power-up or pin reset, and the effect of RESTART: the values that each chapter gives its
blocks after reset (R23, R24, R43, R64, R79, R109, R133, R156, R166, R180, R189). -/

namespace Sys2Proof.Machine

/-- The survey timer of the island state taken at reset (R156). -/
def surveyTimer (configured : Bool) (clock : Nat) (b : Bank) : Timer :=
  if configured then some (clock + b.surveyTime) else none

/-- SURVEY with a configured active bank, UNCONFIGURED otherwise (R156). -/
def islandAfter (configured : Bool) : Island := if configured then .survey else .unconfigured

/-! ## Power-up or pin reset -/

/-- What a partner on the loop sees of a port's last inserted frame when the part is reset: an
insertion in progress is cut off where it stands (R23). -/
def PortState.cutOff (x : PortState) : PortState :=
  match x.tx with
  | .inserting _ _ _ => { PortState.reset with lastEnd := .cut }
  | .idle | .forwarding => { PortState.reset with lastEnd := x.lastEnd }

/-- The loop blocks of R23, the notice slot still empty. -/
def Loop.powered (l : Loop) (strap : Addr) : Loop :=
  { Loop.reset strap with portE := l.portE.cutOff, portW := l.portW.cutOff }

/-- The strap as an address, 63 giving none (R23). -/
def strapAddr (strap : Addr) : Option Addr := if strap.val = 63 then none else some strap

/-- The flags of R189: RESTARTED, with STORE_INVALID where the store gives no bank. -/
def resetFlags (loaded : Bool) : BitVec 16 :=
  if loaded then Flag.restarted.word else Flag.restarted.word ||| Flag.storeInvalid.word

/-- Every block but the notice slot after power-up or pin reset, with the bank that the store gives.
The store is left as it is; its state is VALID where its image has been loaded, INVALID otherwise, where
a valid image has failed the checks too (R178, R180). -/
def State.powered (s : State) (strap : Addr) (mntHigh : Bool) (loaded : Option Bank) : State :=
  let b := loaded.getD Bank.empty
  let set := loaded.isSome
  { s with
    loop  := s.loop.powered strap
    pic   := Picture.reset
    bal   := Balance.reset (s.clock + b.roundPeriod)
    cur   := Curtailment.reset
    seq   := Sequencer.reset
    shed  := Shedding.reset
    bs    := BlackStart.reset (islandAfter set) (surveyTimer set s.clock b)
    mode  := ModeControl.reset mntHigh
    bank  := ⟨b, b, set, false, .none⟩
    store := { s.store with cond := if set then .valid else .invalid }
    dir   := { s.dir with overrun := 0, window := false }
    sum   := ⟨resetFlags set, 0⟩ }

/-- Power applied, or RST_N released: the strap is sampled, the store judged, every block takes its
values, and the notice slot is filled with the summary and held on both ports (R23, R178, R189). -/
def State.poweredUp (s : State) (strap : Addr) (mntHigh : Bool) : State :=
  (s.powered strap mntHigh (s.store.load (strapAddr strap))).fillNotice

/-! ## RESTART -/

/-- An insertion in progress goes on, and its completion will change nothing. -/
def Tx.orphan : Tx → Tx
  | .inserting r f _ => .inserting r f true
  | .idle => .idle
  | .forwarding => .forwarding

/-- The loop blocks of R24, the notice slot still empty: ports, forwarding, sequence counter and own
address are kept. -/
def Loop.restarted (l : Loop) : Loop :=
  { l with
    portE := { l.portE with tx := l.portE.tx.orphan }
    portW := { l.portW with tx := l.portW.tx.orphan }
    dup := Vector.replicate 63 DupEntry.reset
    orders := Vector.replicate 64 none
    ageCounter := 0, answers := [], notice := none }

/-- Every block but the notice slot after RESTART: both banks and the store are kept, a pending commit
is discarded (R180); the line is armed where it is high (R166). -/
def State.restarted (s : State) : State :=
  let b := s.bank.active
  { s with
    loop := s.loop.restarted
    pic  := Picture.reset
    bal  := Balance.reset (s.clock + b.roundPeriod)
    cur  := Curtailment.reset
    seq  := Sequencer.reset
    shed := Shedding.reset
    bs   := BlackStart.reset (islandAfter s.bank.configured)
              (surveyTimer s.bank.configured s.clock b)
    mode := ModeControl.reset s.mode.mntHigh
    bank := { s.bank with pending := false, last := .none }
    dir  := { s.dir with overrun := 0, window := false }
    sum  := ⟨Flag.restarted.word, 0⟩ }

/-- RESTART takes effect (R186); the notice slot is filled with marks by R15. -/
def State.restartEffect (s : State) : State := s.restarted.fillNotice

end Sys2Proof.Machine
end

