-- ==== Sys2Proof/Machine/Round.lean ====
section
/-! DEFINITION. The balance engine: the balance round, its arithmetic and its decisions (chapter 3). -/

namespace Sys2Proof.Machine

/-! ## Memberships (R47) -/

def State.inGunl (s : State) (g : Fin 8) : Bool :=
  (s.genCfg g).configured && (s.gen g).state == .unloading

def State.inGunseen (s : State) (g : Fin 8) : Bool :=
  (s.genCfg g).configured && (s.gen g).state == .unseen

/-- CRANKING, RESTING, WARMUP, HOT or SYNCING: under way (R55). -/
def State.underWay (s : State) (g : Fin 8) : Bool :=
  (s.genCfg g).configured && ((s.gen g).state.starting || (s.gen g).state == .hot)

/-- Cover of a solar output, rounded up to whole kilowatts (R53). -/
def coverOf (cover : Nat) (x : Int) : Int := ((cover : Int) * x + 99) / 100

/-! ## Stages 1 to 3 (R48 to R53) -/

/-- The figures of a round through stage 3, with the low-load indication (R60); nothing is decided
yet. -/
def State.roundFigures (s : State) : Figures :=
  let pG : Int := sumOver gensets (fun g => s.inGon g || s.inGunl g) s.genOut
  let pU : Int := sumOver gensets s.inGunseen s.genOut
  let pS : Int := s.sumPs
  let pL : Int := sumOver pvBlocks s.inSlost s.pvOut
  let e := pG + pS
  let a : Int := s.sumA
  let cOn : Int := sumOver gensets s.inGon fun g => (s.genCfg g).rating
  let mOn : Int := sumOver gensets s.inGon fun g => (s.genCfg g).minLoad
  let xMl := max 0 (e - mOn)
  let xStar := min a xMl
  let xCmd := min xStar (s.bal.rampBase + s.act.rampUp)
  let dd := e - xCmd
  let rReq := (s.act.reserveBase : Int) + coverOf s.act.cover (xCmd + pL)
  let h := cOn - dd
  { Figures.reset with
    valid := true, pG := pG, pU := pU, pS := pS, pL := pL, d := pG + pU + pS + pL, e := e, a := a
    cOn := cOn, mOn := mOn, xMl := xMl, xStar := xStar, xCmd := xCmd, dd := dd, rReq := rReq
    h := h, m := h - rReq
    pPend := sumOver gensets s.underWay fun g => (s.genCfg g).rating
    lowLoad := decide (e < mOn) }

/-! ## Stage 4: decisions -/

/-- R54. -/
def State.startDwellNext (s : State) (f : Figures) : Nat :=
  if s.mode.mode == .commissioning then 0
  else if f.m < 0 then min (s.bal.startDwell + 1) s.act.startDwell
  else 0

/-- Whether the island needs a start, by the mode (R55). -/
def State.needsStart (s : State) (f : Figures) : Bool :=
  match s.mode.mode with
  | .auto => decide (f.cOn < f.dd) || decide (s.act.startDwell ≤ s.startDwellNext f)
  | .hold => decide (f.cOn < f.dd)
  | .commissioning => false

/-- Whether the need is passed on: starts under way do not cover it (R55). -/
def State.passesStart (s : State) (f : Figures) : Bool :=
  s.needsStart f && (decide (f.m + f.pPend < 0) || decide (f.cOn + f.pPend < f.dd))

/-- The member of G_on of highest start rank whose min-run timer has expired (R56). -/
def State.stopCandidate (s : State) : Option (Fin 8) :=
  greatestBy (fun g => (s.genCfg g).startRank)
    (gensets.filter fun g => s.inGon g && (s.gen g).minRun == .expired)

/-- The conditions of the stop test (R56), but for the start request of the round. -/
def State.mayTestStop (s : State) : Bool :=
  s.bs.island == .balancing && s.mode.mode == .auto
  && gensets.all (fun g => !s.underWay g && !s.inGunl g)
  && decide (2 ≤ (gensets.filter s.inGon).length)

/-- The candidate of a round's stop test. -/
def State.roundCandidate (s : State) (f : Figures) : Option (Fin 8) :=
  if s.mayTestStop && !s.passesStart f then s.stopCandidate else none

/-- The round worked again without the candidate (R57). -/
def State.stopFigures (s : State) (f : Figures) (k : Fin 8) : StopFigures :=
  let c := f.cOn - (s.genCfg k).rating
  let mn := f.mOn - (s.genCfg k).minLoad
  let x := min f.a (max 0 (f.e - mn))
  let d := f.e - x
  let r := (s.act.reserveBase : Int) + coverOf s.act.cover (x + f.pL)
  ⟨c, x, d, r, c - d - r⟩

/-- The stop dwell counter after the test for candidate `k` (R58). -/
def State.stopDwellNext (s : State) (f : Figures) (k : Fin 8) : Nat :=
  let base := if s.bal.stopCand == some k then s.bal.stopDwell else 0
  if (s.act.stopMargin : Int) ≤ (s.stopFigures f k).m then min (base + 1) s.act.stopDwell else 0

/-- Whether the round passes a stop request for `k` (R58). -/
def State.passesStop (s : State) (f : Figures) (k : Fin 8) : Bool :=
  decide ((s.act.stopMargin : Int) ≤ (s.stopFigures f k).m)
  && decide (s.act.stopDwell ≤ s.stopDwellNext f k)

/-- Whether the round adds to the deficit dwell (R59). -/
def State.inDeficit (s : State) (f : Figures) : Bool :=
  s.bs.island == .balancing && s.mode.mode != .commissioning && decide (f.cOn + f.pPend < f.dd)

/-- Whether the round passes a deficit demand (R59). -/
def State.passesDeficit (s : State) (f : Figures) : Bool :=
  s.inDeficit f && decide (s.act.deficitDwell ≤ s.bal.deficitDwell + 1)

/-- The state of the engine after a computed round (R46 to R60): the figures replaced as a whole, the
dwell counters, the stop candidate, and the ramp base at X_cmd (R50). -/
def State.roundBalance (s : State) : Balance :=
  let f := s.roundFigures
  let cand := s.roundCandidate f
  { s.bal with
    fig := { f with
      startNeed := s.needsStart f, startPassed := s.passesStart f
      stop := cand.map (s.stopFigures f)
      stopRequest := cand.filter (s.passesStop f)
      deficit := if s.passesDeficit f then some (f.dd - f.cOn - f.pPend) else none }
    startDwell := s.startDwellNext f
    stopDwell := match cand with
      | none => 0
      | some k => s.stopDwellNext f k
    stopCand := cand
    deficitDwell := if s.inDeficit f && !s.passesDeficit f then s.bal.deficitDwell + 1 else 0
    rampBase := f.xCmd }

/-- The results of a computed round are handed on (R61): to the allocator, to the set sequencer (the
round-complete event, the start request, the stop request), to the shedding unit. -/
def State.handRound (s : State) : State :=
  let f := s.bal.fig
  let s := (s.allocate f.xCmd f.a).roundComplete f.m
  let s := if f.startPassed then s.startRequest none false else s
  let s := match f.stopRequest with
    | none => s
    | some k => s.stopSet k
  let s := match f.deficit with
    | none => s
    | some q => s.reducedDemand q .deficit
  s.drain

/-- A computed round (R46). -/
def State.computedRound (s : State) : State := { s with bal := s.roundBalance }.handRound

/-- An uncomputed round (R45). -/
def State.uncomputedRound (s : State) : State :=
  { s with bal := { s.bal with
      fig := { s.bal.fig with
        valid := false, startNeed := false, startPassed := false, stopRequest := none
        deficit := none }
      startDwell := 0, stopDwell := 0, deficitDwell := 0, stopCand := none } }

/-- The round as the island state at the expiry has it (R44). -/
def State.round (s : State) : State :=
  if s.bs.island.live then s.computedRound else s.uncomputedRound

/-- The round timer is started again with the round period in force (R44). -/
def State.restartRound (s : State) : State :=
  { s with bal := { s.bal with roundTimer := s.timer s.act.roundPeriod } }

end Sys2Proof.Machine
end

