-- ==== Sys2Proof/Machine/Directives.lean ====
section
/-! DEFINITION. The directive handler: the checks on a directive, the fourteen directives, their reply
data (11.4), and the answer that joins the FIFO (chapter 10). -/

namespace Sys2Proof.Machine

/-! ## Answers (R181, R191) -/

/-- The reply data of an answer in segments of at most 42 bytes, with at least one segment. -/
def chunks : Nat → List Byte → List (List Byte)
  | 0, _ => []
  | n + 1, bs => if bs.length ≤ 42 then [bs] else bs.take 42 :: chunks n (bs.drop 42)

/-- The segments of an answer of at most 9. -/
def replySegments (bs : List Byte) : List (List Byte) := chunks 9 bs

/-- The segments with their headers in segment order, from sequence number `seq` on. -/
def headSegments (hop : Nat) (marks : Marks) : Byte → List (List Byte) → List Segment
  | _, [] => []
  | seq, d :: ds => ⟨hop, seq, d, marks⟩ :: headSegments hop marks (seq + 1) ds

/-- What the carrying out of a directive gives for its answer. -/
structure Reply where
  result  : ResultCode
  clamped : Bool
  data    : List Byte
  deriving DecidableEq, Repr

/-- An answer without reply data. -/
def Reply.plain (x : ResultCode) : Reply := ⟨x, false, []⟩

/-- The answer joins the tail of the FIFO, its segments taking their headers and marks (R14, R15,
R191). -/
def State.join (s : State) (src : Addr) (code token : Byte) (r : Reply) : State :=
  let parts := replySegments r.data
  { s with
    loop := { s.loop with
      answers := s.loop.answers ++ [⟨src, code, token, r.result, r.clamped,
        headSegments s.act.hopCount s.newMarks s.loop.seqCounter parts⟩]
      seqCounter := s.loop.seqCounter + BitVec.ofNat 8 parts.length }
    dir := { s.dir with reading := s.dir.reading + 1 } }

/-! ## Reply data -/

/-- A reply byte that the layouts give a place but no content (log entry 20). -/
def State.openByte (s : State) (p : Config.OpenPlace) : Byte := Config.openByte p s.dir.reading

/-- The whole seconds left on the line-mode timer (R157). -/
def State.lineSeconds (s : State) : List Byte :=
  match s.mode.lineTimer with
  | some t => be16 ((t - s.clock) / 1000)
  | none => [s.openByte (.lineSeconds false), s.openByte (.lineSeconds true)]

/-- The check number and the index of the last commit result. -/
def State.commitDetail (s : State) : List Byte :=
  match s.bank.last with
  | .dropped c i => [byte c, byte i]
  | .none | .done => [s.openByte (.commitDetail false), s.openByte (.commitDetail true)]

/-- READ STATUS: 31 bytes (R183, 11.4). -/
def State.statusData (s : State) : List Byte :=
  [byte s.loop.strap.val, s.bs.island.code, s.bs.phase.code,
   indexByte (s.bs.stepPtr.map Fin.val), flagByte s.bs.limit.isSome, s.mode.mode.code,
   s.mode.source.code, s.mode.dirMode.toMode.code]
  ++ s.lineSeconds
  ++ [s.loop.portE.cond.code, s.loop.portW.cond.code]
  ++ be16 s.loop.portE.overflow ++ be16 s.loop.portW.overflow
  ++ be16 s.pic.roleMismatch.toNat ++ be16 s.pic.formCount.toNat
  ++ [byte s.dir.overrun, s.store.cond.code, flagByte s.bank.configured,
      flagByte s.bank.pending, s.bank.last.code]
  ++ s.commitDetail
  ++ be16 s.sum.flags.toNat ++ be16 s.sum.seen.toNat

/-- The values of a record that are absent: as many open bytes. -/
def State.absentData (s : State) (n : Nat) : List Byte :=
  (List.range n).map fun i => s.openByte (.absentValue i)

/-- A field that is carried raw and clamped. -/
def rawClamped (raw clamped : Int) : List Byte := be16i raw ++ be16i clamped

/-- The store's part of a genset record: values, then the four counters, in the order in which 2.4 lists
their conditions (DEDUCED, log entry 27). -/
def State.genValueData (s : State) (g : Fin 8) : List Byte :=
  let r := s.genRec g
  let last := match r.lastLoaded with
    | some x => be16 x
    | none => [s.openByte (.lastLoaded false), s.openByte (.lastLoaded true)]
  (match r.vals with
   | some v =>
     [v.engine.code, v.breaker.code, flagByte v.inAuto] ++ rawClamped v.rawOut v.out ++ last
     ++ [v.echoCode, v.echoTag]
   | none => s.absentData 7 ++ last ++ [s.openByte (.absentValue 7), s.openByte (.absentValue 8)])
  ++ [byte r.nRunning, byte r.nStopped, byte r.nClosed, byte r.nOpen]

/-- The job's part of a genset record, in the order of R184. -/
def State.genJobData (s : State) (g : Fin 8) : List Byte :=
  let j := s.gen g
  [j.state.code, match j.before with
    | some x => x.code
    | none => s.openByte .stateBefore]
  ++ [j.order.code, j.tag, byte j.sendCount, flagByte j.taken, flagByte j.unanswered,
      byte j.attempts, flagByte j.mark, flagByte (j.minRun == .expired)]

def State.pvValueData (s : State) (b : Fin 16) : List Byte :=
  match (s.pvRec b).vals with
  | some v =>
    [flagByte v.connected] ++ rawClamped v.rawOut v.out ++ rawClamped v.rawAvail v.avail
    ++ [v.echoCode, v.echoTag] ++ be16 v.echoCap
  | none => s.absentData 13

/-- The job's part of a PV block, as R73 gives it. -/
def State.pvJobData (s : State) (b : Fin 16) : List Byte :=
  let j := s.pv b
  [j.state.code, j.order.code] ++ absent16 j.cap
  ++ [j.tag, byte j.sendCount, flagByte j.unanswered] ++ absent16 j.allotment

def State.fdrValueData (s : State) (f : Fin 32) : List Byte :=
  match (s.fdrRec f).vals with
  | some v => [v.breaker.code] ++ rawClamped v.rawLoad v.load ++ [v.echoCode, v.echoTag]
  | none => s.absentData 7

/-- The job's part of a feeder, as R132 gives it. The open-confirmed mark is shown in every state, outside
HELD_OPEN with the value that it last had (DEDUCED, log entry 34). -/
def State.fdrJobData (s : State) (f : Fin 32) : List Byte :=
  let j := s.fdr f
  [j.state.code, j.order.code, j.tag, byte j.sendCount, flagByte j.taken, flagByte j.unanswered,
   flagByte j.openConfirmed]

/-- The bus meter's record: values, then the three counters in the order in which 2.4 lists their
conditions (DEDUCED, log entry 27). -/
def State.busValueData (s : State) : List Byte :=
  let r := s.pic.bus
  (match r.vals with
   | some v => rawClamped v.rawDev v.dev ++ be16 v.rawVolt ++ be16 v.volt
   | none => s.absentData 8)
  ++ [byte r.nDead, byte r.nLive, byte r.nSettled]

/-- Whether the values of a unit's record are absent (2.2). -/
def State.valuesAbsent (s : State) : UnitRef → Bool
  | .genset g => (s.genRec g).vals.isNone
  | .pv b => (s.pvRec b).vals.isNone
  | .feeder f => (s.fdrRec f).vals.isNone
  | .busmeter => s.pic.bus.vals.isNone

/-- READ UNIT (R184, 11.4). -/
def State.unitData (s : State) (u : UnitRef) : List Byte :=
  roleBytes u
  ++ [byte (((s.act.stationOf u).map Fin.val).getD 0xFF), (s.freshness u).code,
      flagByte (s.valuesAbsent u)]
  ++ match u with
     | .genset g => s.genValueData g ++ s.genJobData g
     | .pv b => s.pvValueData b ++ s.pvJobData b
     | .feeder f => s.fdrValueData f ++ s.fdrJobData f
     | .busmeter => s.busValueData

/-- The flag byte of READ BALANCE, its flags from bit 0 in the order of 11.4. -/
def Figures.flagBits (f : Figures) : Byte :=
  byte (f.valid.toNat + 2 * f.startNeed.toNat + 4 * f.startPassed.toNat + 8 * f.lowLoad.toNat)

/-- The seventeen figures, in the order of 11.4. -/
def Figures.words (f : Figures) : List Int :=
  [f.pG, f.pU, f.pS, f.pL, f.d, f.e, f.a, f.cOn, f.mOn, f.xMl, f.xStar, f.xCmd, f.dd, f.rReq, f.h,
   f.m, f.pPend]

/-- The figures of the stop test, 0 when none was worked. -/
def Figures.stopWords (f : Figures) : List Int :=
  match f.stop with
  | none => [0, 0, 0, 0, 0]
  | some x => [x.c, x.x, x.d, x.r, x.m]

/-- READ BALANCE: 151 bytes (R185, 11.4). Its one byte for a stop candidate is the candidate of the engine,
which an uncomputed round sets to none beside the kept figures of the last stop test (DESIGN CHOICE, log
entry 39). -/
def State.balanceData (s : State) : List Byte :=
  let f := s.bal.fig
  [f.flagBits] ++ f.words.flatMap be32
  ++ [indexByte (s.bal.stopCand.map Fin.val)] ++ f.stopWords.flatMap be32
  ++ [indexByte (f.stopRequest.map Fin.val)] ++ be32 (f.deficit.getD 0)
  ++ [byte s.bal.startDwell] ++ be16 s.bal.stopDwell ++ [byte s.bal.deficitDwell]
  ++ be32 s.bal.rampBase
  ++ be16 s.cur.fractions[3] ++ be16 s.cur.fractions[2] ++ be16 s.cur.fractions[1]
  ++ be16 s.cur.fractions[0]
  ++ be32 s.cur.sum ++ be32 s.cur.u
  ++ pvBlocks.flatMap fun b => absent16 (s.pv b).allotment

/-- An entry of READ STACK: 11 bytes. -/
def State.entryData (s : State) (e : StackEntry) : List Byte :=
  [byte e.feeder.val, (s.fdr e.feeder).state.code] ++ be16 e.load ++ [e.reason.code]
  ++ be32 e.time ++ be16 (s.pickup e)

/-- READ STACK: 22 bytes, and 11 for each entry from the top (R132, 11.4). -/
def State.stackData (s : State) : List Byte :=
  [byte s.shed.stack.length] ++ be32 s.inFlight
  ++ stageNumbers.map (fun n => (s.shed.stages[n]).cond.code)
  ++ [flagByte s.shed.ufActive] ++ be32 s.shed.shedEvent
  ++ [flagByte s.shed.dwellMet, flagByte s.shed.interval.isSome] ++ be32 s.shed.seconds
  ++ s.shed.stack.flatMap s.entryData

/-! ## Carrying out a directive -/

/-- The part after a directive, and the reply for its answer. -/
structure Carried where
  state : State
  reply : Reply
  deriving DecidableEq, Repr

/-- READ TABLE (R171): table, bank, record index. -/
def State.doReadTable (s : State) (a : List Byte) : Carried :=
  let t := (at8 a 0).toNat
  let i := (at8 a 2).toNat
  if !isTable t || tableCount t ≤ i then ⟨s, .plain .range⟩
  else if at8 a 1 == 0 then ⟨s, ⟨.done, false, a ++ s.bank.active.readRecord t i⟩⟩
  else if at8 a 1 == 1 then ⟨s, ⟨.done, false, a ++ s.bank.shadow.readRecord t i⟩⟩
  else ⟨s, .plain .range⟩

/-- WRITE TABLE (R169): table, record index, record. -/
def State.doWriteTable (s : State) (a : List Byte) : Carried :=
  let w := s.judgeWrite (at8 a 0).toNat (at8 a 1).toNat (a.drop 2)
  ⟨s.modBank fun b => { b with shadow := w.shadow }, ⟨w.result, w.clamped, []⟩⟩

/-- CLEAR SHADOW (R172): table. -/
def State.doClearShadow (s : State) (a : List Byte) : Carried :=
  let w := s.judgeClear (at8 a 0).toNat
  ⟨s.modBank fun b => { b with shadow := w.shadow }, .plain w.result⟩

/-- COMMIT (R173). -/
def State.doCommit (s : State) : Carried :=
  let w := s.judgeCommit
  ⟨s.modBank fun b => { b with pending := b.pending || w.result == .pending },
    ⟨w.result, false, w.data⟩⟩

/-- READ STATUS: every set flag is marked seen after the answer is formed (R183). -/
def State.doReadStatus (s : State) : Carried :=
  ⟨{ s with sum := s.sum.markSeen }, ⟨.done, false, s.statusData⟩⟩

/-- ACK NOTICES (R188): the mask. -/
def State.doAckNotices (s : State) (a : List Byte) : Carried :=
  let n := s.sum.acknowledge (BitVec.ofNat 16 (at16 a 0))
  ⟨{ s with sum := n }, ⟨.done, false, be16 n.flags.toNat ++ be16 n.seen.toNat⟩⟩

/-- READ UNIT (R184): kind, index. -/
def State.doReadUnit (s : State) (a : List Byte) : Carried :=
  match unitOfBytes (at8 a 0) (at8 a 1) with
  | none => ⟨s, .plain .range⟩
  | some u =>
    if s.act.configured u then ⟨s, ⟨.done, false, s.unitData u⟩⟩ else ⟨s, .plain .range⟩

def State.doReadBalance (s : State) : Carried := ⟨s, ⟨.done, false, s.balanceData⟩⟩

def State.doReadStack (s : State) : Carried := ⟨s, ⟨.done, false, s.stackData⟩⟩

/-- The directive mode of a value (R158). -/
def dirModeOf (b : Byte) : Option DirMode :=
  if b == 0 then some .auto else if b == 1 then some .hold else none

/-- SET MODE (R158): value. -/
def State.doSetMode (s : State) (a : List Byte) : Carried :=
  match dirModeOf (at8 a 0) with
  | none => ⟨s, .plain .range⟩
  | some m =>
    match s.mode.source with
    | .line => ⟨s, .plain .local⟩
    | .directive =>
      if s.mode.dirMode == m then ⟨s, .plain .done⟩
      else ⟨(s.modMode fun x => { x with dirMode := m }).applyMode m.toMode .directive, .plain .done⟩

/-- The genset of an index byte. -/
def gensetOf (b : Byte) : Option (Fin 8) :=
  if h : b.toNat < 8 then some ⟨b.toNat, h⟩ else none

/-- CLEAR LOCKOUT (R95): genset index. -/
def State.doClearLockout (s : State) (a : List Byte) : Carried :=
  match gensetOf (at8 a 0) with
  | none => ⟨s, .plain .range⟩
  | some g =>
    if !(s.genCfg g).configured then ⟨s, .plain .range⟩
    else if (s.gen g).state == .lockout then ⟨(s.clearLockout g).drain, .plain .done⟩
    else ⟨s, .plain .state⟩

/-- BLACK START (R142, R148). -/
def State.doBlackStart (s : State) : Carried :=
  if s.mayBlackStart then ⟨s.proceed.drain, .plain .done⟩ else ⟨s, .plain .state⟩

/-- ABANDON (R149). -/
def State.doAbandon (s : State) : Carried :=
  match s.bs.island with
  | .blackout | .firstSource | .energizing => ⟨s.enterAbandoned.drain, .plain .done⟩
  | .unconfigured | .survey | .balancing | .restoring | .pvReturn | .abandoned =>
    ⟨s, .plain .state⟩

/-- RESTART (R186): the discard window opens; the effect comes when the answer is done. -/
def State.doRestart (s : State) : Carried :=
  ⟨{ s with dir := { s.dir with window := true } }, .plain .done⟩

/-! ## The checks on a directive (R181) -/

/-- The codes that are taken from any source: READ TABLE, READ STATUS, READ UNIT, READ BALANCE, READ
STACK. -/
def readsOnly (code : Byte) : Bool :=
  code == 1 || code == 5 || code == 7 || code == 8 || code == 9

/-- Whether a source is supervisory address 1 or 2; 63 means none. -/
def State.supervises (s : State) (src : Addr) : Bool :=
  src.val != 63 && (src == s.act.super1 || src == s.act.super2)

/-- Check 4. -/
def State.permits (s : State) (src : Addr) (code : Byte) : Bool :=
  readsOnly code || s.supervises src || s.bs.island == .unconfigured

/-- Check 5: the argument length of a known code. -/
def lengthOk (code : Byte) (n : Nat) : Bool :=
  if code == 1 then n == 3
  else if code == 2 then decide (2 ≤ n)
  else if code == 3 || code == 10 || code == 11 then n == 1
  else if code == 6 || code == 7 then n == 2
  else n == 0

/-- The part that a known directive leaves, with its reply. -/
def State.carryOut (s : State) (code : Byte) (a : List Byte) : Carried :=
  match code.toNat with
  | 1 => s.doReadTable a
  | 2 => s.doWriteTable a
  | 3 => s.doClearShadow a
  | 4 => s.doCommit
  | 5 => s.doReadStatus
  | 6 => s.doAckNotices a
  | 7 => s.doReadUnit a
  | 8 => s.doReadBalance
  | 9 => s.doReadStack
  | 10 => s.doSetMode a
  | 11 => s.doClearLockout a
  | 12 => s.doBlackStart
  | 13 => s.doAbandon
  | _ => s.doRestart

/-- Checks 3 to 5, then the directive itself. -/
def State.judgeDirective (s : State) (src : Addr) (code : Byte) (a : List Byte) : Carried :=
  if code == 0 || decide (14 < code.toNat) then ⟨s, .plain .unknown⟩
  else if !s.permits src code then ⟨s, .plain .notPermitted⟩
  else if !lengthOk code a.length then ⟨s, .plain .length⟩
  else s.carryOut code a

/-- A directive with its code and its token is taken: silently discarded between the taking of RESTART
and its effect (R186), counted where the FIFO holds four answers (R182), judged and answered
otherwise. -/
def State.takeDirective (s : State) (src : Addr) (code token : Byte) (a : List Byte) : State :=
  if s.dir.window then s
  else if 4 ≤ s.loop.answers.length then
    { s with dir := { s.dir with overrun := min 255 (s.dir.overrun + 1) } }
  else
    let c := s.judgeDirective src code a
    c.state.join src code token c.reply

/-- The payload of an accepted directive; one without code or token is discarded (check 1). -/
def State.takePayload (s : State) (src : Addr) : List Byte → State
  | code :: token :: a => s.takeDirective src code token a
  | _ => s

end Sys2Proof.Machine
end

