-- ==== Sys2Proof/Machine/Ports.lean ====
section
/-! DEFINITION. The loop ports, the intake filter and the outbound scheduler: judging a received frame,
port states, forwarding, the duplicate table, insertion and its completion (chapter 1). -/

namespace Sys2Proof.Machine

/-! ## Receiving and checking (R2, R3) -/

inductive RxError where
  | length | framing | check
  deriving DecidableEq, Repr

/-- What a port delivers of a reception. -/
inductive Verdict where
  | aborted
  | error (k : RxError)
  | good (f : Frame)
  deriving DecidableEq, Repr

/-- The payload length field of the received bytes. -/
def rxLength (f : RxFrame) : Nat := (at8 f.bytes 5).toNat

/-- The length error: a payload length field, where it has been received, above 48. -/
def rxLengthError (f : RxFrame) : Bool :=
  decide (6 ≤ f.bytes.length) && decide (48 < rxLength f)

def rxFramingError (f : RxFrame) : Bool :=
  !f.opening || !f.closing || f.bytes.length != 8 + rxLength f
  || (lowSix (at8 f.bytes 1)).val == 63

def rxCheckError (f : RxFrame) : Bool :=
  (crc16 (f.bytes.take (6 + rxLength f))).toNat != at16 f.bytes (6 + rxLength f)

/-- The frame of the received bytes. -/
def rxFrame (f : RxFrame) : Frame where
  dst     := at8 f.bytes 0
  src     := at8 f.bytes 1
  hop     := at8 f.bytes 2
  kind    := at8 f.bytes 3
  seq     := at8 f.bytes 4
  payload := (f.bytes.drop 6).take (rxLength f)

/-- The errors are tested in the order of R2. -/
def rxJudge (f : RxFrame) : Verdict :=
  if f.aborted then .aborted
  else if rxLengthError f then .error .length
  else if rxFramingError f then .error .framing
  else if rxCheckError f then .error .check
  else .good (rxFrame f)

/-! ## Port states (R4 to R7) -/

/-- A receive error at a port: it ends the run of good frames and joins the error window (R3, R6). -/
def PortState.countError (x : PortState) (k : RxError) : PortState :=
  if x.isDown then { x with goodCount := 0 }
  else
    { x with
      goodCount  := 0
      errTotal   := min 255 (x.errTotal + 1)
      errLength  := x.errLength || k == .length
      errFraming := x.errFraming || k == .framing
      errCheck   := x.errCheck || k == .check }

/-- An error window begins with empty counts. -/
def PortState.openWindow (x : PortState) (t : Timer) : PortState :=
  { x with window := t, errTotal := 0, errLength := false, errFraming := false, errCheck := false }

/-- Acts on the marks of every outbound entry. -/
def State.mapMarks (s : State) (f : Marks → Marks) : State :=
  { s with loop := s.loop.mapMarks f }

/-- The port enters UP from DOWN; held entries keep the mark on it alone (R5, R7, R15). -/
def State.portEntersUp (s : State) (p : Port) : State :=
  let s := s.modPort p fun x =>
    ({ x with cond := .up, goodCount := 0 }).openWindow (s.timer s.act.errorWindow)
  let s :=
    if (s.port p.other).isDown then s.mapMarks fun m => m.portUp p else s
  s.raise .portChange

/-- A good frame at a port (R5). -/
def State.countGood (s : State) (p : Port) : State :=
  if (s.port p).isDown then
    if s.act.qualCount ≤ (s.port p).goodCount + 1 then s.portEntersUp p
    else s.modPort p fun x => { x with goodCount := x.goodCount + 1 }
  else s

/-- Loss of signal (R4). -/
def State.losePort (s : State) (p : Port) : State :=
  if (s.port p).isDown then s.modPort p fun x => { x with goodCount := 0 }
  else
    let s := s.modPort p fun x => ({ x with cond := .down, goodCount := 0 }).openWindow none
    let s := s.mapMarks fun m => m.portDown p (s.port p.other).isDown
    s.raise .portChange

/-- The number of error kinds that occurred in the window. -/
def PortState.errKinds (x : PortState) : Nat :=
  x.errLength.toNat + x.errFraming.toNat + x.errCheck.toNat

/-- The state that a closed window gives (R6). -/
def PortState.judgeWindow (x : PortState) (limit : Nat) : PortCond :=
  if decide (limit ≤ x.errTotal) || decide (2 ≤ x.errKinds) then .degraded else .up

/-- The error window expires (R6, R7). -/
def State.windowDone (s : State) (p : Port) : State :=
  let old := (s.port p).cond
  let new := (s.port p).judgeWindow s.act.errorLimit
  let s := s.modPort p fun x =>
    ({ x with cond := new }).openWindow (s.timer s.act.errorWindow)
  if old == new then s else s.raise .portChange

/-! ## Forwarding (R9, R10, R18) -/

/-- A frame placed in a port's forwarding buffer, or dropped where it holds two. -/
def PortState.placeForward (x : PortState) (f : Frame) : PortState :=
  if 2 ≤ x.buffer.length then { x with overflow := min 65535 (x.overflow + 1) }
  else
    let y := { x with buffer := x.buffer ++ [f] }
    if 2 ≤ y.buffer.length then y.abort.startForward else y.startForward

/-- R9: the frame received on `p` leaves by the other port, its hop count lowered by one. -/
def State.forward (s : State) (p : Port) (f : Frame) : State :=
  if (lowSix f.hop).val ≤ 1 then s
  else s.modPort p.other fun x => x.placeForward { f with hop := f.hop - 1 }

/-- A forwarded frame has been sent (R10). -/
def PortState.forwarded (x : PortState) : PortState :=
  match x.tx with
  | .forwarding => { x with tx := .idle, buffer := x.buffer.tail }.startForward
  | .idle | .inserting _ _ _ => x

/-! ## The intake filter (R11 to R13) -/

/-- R12: an invalid entry, or a difference of 1 to 127. -/
def DupEntry.accepts (e : DupEntry) (seq : Byte) : Bool :=
  !e.valid || (decide (1 ≤ (seq - e.last).toNat) && decide ((seq - e.last).toNat ≤ 127))

/-- The entry of a source after an acceptance; the lost timer starts again. -/
def State.acceptSeq (s : State) (i : Fin 63) (seq : Byte) : State :=
  { s with loop := { s.loop with dup := put s.loop.dup i ⟨true, seq, s.timer s.act.lostTimeout⟩ } }

/-- An accepted frame goes to the picture store or to the directive handler (R11). -/
def State.route (s : State) (src : Addr) (f : Frame) : State :=
  if isReport f.kind then s.takeReport src f.kind f.payload else s.takePayload src f.payload

/-- Whether the filter consults the table for a frame: reports, but in UNCONFIGURED, and directives. -/
def State.uses (s : State) (k : Byte) : Bool :=
  (isReport k && s.bs.island != .unconfigured) || k == kindDirective

/-- A frame offered to the filter. -/
def State.intake (s : State) (f : Frame) : State :=
  if h : (lowSix f.src).val < 63 then
    let i : Fin 63 := ⟨(lowSix f.src).val, h⟩
    if s.uses f.kind && s.loop.dup[i].accepts f.seq then
      (s.acceptSeq i f.seq).route (lowSix f.src) f
    else s
  else s

/-- The offer; a part without an address of its own offers nothing (R23). -/
def State.offer (s : State) (f : Frame) : State :=
  if s.ownAddr.isNone then s else s.intake f

/-- R8: the first line of the table that fits a good frame. A frame that is both forwarded and offered is
forwarded first: R8 calls the two independent and gives no order. DESIGN CHOICE (log entry 44). -/
def State.handleFrame (s : State) (p : Port) (f : Frame) : State :=
  if s.ownAddr == some (lowSix f.src) then s
  else if s.ownAddr == some (lowSix f.dst) then s.offer f
  else if (lowSix f.dst).val = 63 then (s.forward p f).offer f
  else if isReport f.kind then (s.forward p f).offer f
  else s.forward p f

/-- A reception ends on a port (R2, R3, R5, R8). -/
def State.receive (s : State) (p : Port) (f : RxFrame) : State :=
  match rxJudge f with
  | .aborted => s
  | .error k => s.modPort p fun x => x.countError k
  | .good g => (s.countGood p).handleFrame p g

/-- The lost timer of a source expires: the entry becomes invalid, and a mapped unit's record that is
FRESH or LATE becomes LOST in the same event (R13, R35). -/
def State.sourceLost (s : State) (src : Addr) (i : Fin 63) : State :=
  let s := { s with loop := { s.loop with
    dup := upd s.loop.dup i fun e => { e with valid := false, lost := none } } }
  match s.act.mapped src with
  | none => s
  | some u => if (s.freshness u).isLost then s else (s.recordLost u).handLost u

/-! ## The outbound arbiter (R16) -/

/-- An age `a` is older than an age `b` (R19). -/
def older (a b : BitVec 32) : Bool :=
  decide (1 ≤ (b - a).toNat) && decide ((b - a).toNat ≤ 2147483647)

/-- The slot of a class marked on a port, if the station has one. -/
def State.candidate (s : State) (p : Port) (c : OrderClass) (a : Addr) : Option OrderSlot :=
  (s.slot a).filter fun o => o.cls == c && o.marks.on p

/-- The station of the oldest slot of a class marked on a port. -/
def State.oldest (s : State) (p : Port) (c : OrderClass) : Option Addr :=
  addresses.foldl (fun best a =>
    match s.candidate p c a with
    | none => best
    | some o =>
      match best with
      | none => some a
      | some b =>
        match s.slot b with
        | none => some a
        | some x => if older o.age x.age then some a else best) none

/-- The lowest-numbered segment of an answer still marked on a port. -/
def Answer.segment (x : Answer) (p : Port) : Option Nat := x.segs.findIdx? fun g => g.marks.on p

/-- The choice of an insertion opportunity. -/
def State.chooseEntry (s : State) (p : Port) : Option EntryRef :=
  match s.oldest p .urgent with
  | some a => some (.order a)
  | none =>
    match s.loop.answers.head?.bind fun x => x.segment p with
    | some i => some (.answer i)
    | none =>
      match s.oldest p .routine with
      | some a => some (.order a)
      | none => (s.loop.notice.filter fun n => n.marks.on p).map fun _ => .notice

/-! ## The frames of the part (R14, R190, 11.3, 11.4) -/

/-- A frame originated by the part, the upper two bits of its addresses and hop count 0. -/
def ownFrame (own dst : Addr) (hop : Nat) (kind seq : Byte) (payload : List Byte) : Frame :=
  ⟨byte dst.val, byte own.val, byte hop, kind, seq, payload⟩

def OrderSlot.frame (o : OrderSlot) (own a : Addr) : Frame :=
  ownFrame own a o.hop kindOrder o.seq
    ([o.code.code, o.tag] ++ be16 (if o.code == .cap then o.cap else 0))

def Answer.frame (x : Answer) (own : Addr) (i : Nat) (g : Segment) : Frame :=
  ownFrame own x.dst g.hop kindAnswer g.seq
    ([x.code, x.token, x.result.code, flagByte x.clamped, byte i, byte x.segs.length] ++ g.data)

def NoticeEntry.frame (n : NoticeEntry) (own : Addr) : Frame :=
  ownFrame own n.dst n.hop kindNotice n.seq (be16 n.flags.toNat ++ [n.island.code, n.mode.code])

/-- The frame of an entry. -/
def State.entryFrame (s : State) (own : Addr) : EntryRef → Option Frame
  | .order a => (s.slot a).map fun o => o.frame own a
  | .answer i =>
    match s.loop.answers.head? with
    | none => none
    | some x => (x.segs[i]?).map fun g => x.frame own i g
  | .notice => s.loop.notice.map fun n => n.frame own

/-- A port has an insertion opportunity (R16). -/
def PortState.hasOpportunity (x : PortState) : Bool :=
  !x.isDown && x.tx == .idle && x.buffer.isEmpty

/-- The insertion of a chosen entry begins. -/
def State.insert (s : State) (p : Port) (own : Addr) (r : EntryRef) : State :=
  match s.entryFrame own r with
  | none => s
  | some f => s.modPort p fun x => { x with tx := .inserting r f false }

/-- The outbound scheduler at a port; a part without an address of its own inserts nothing (R23). -/
def State.opportunity (s : State) (p : Port) : State :=
  if (s.port p).hasOpportunity then
    match s.ownAddr, s.chooseEntry p with
    | some own, some r => s.insert p own r
    | _, _ => s
  else s

/-! ## The completion of an insertion (R17) -/

/-- A port's mark is removed from an order slot; a done slot becomes empty. -/
def State.sentOrder (s : State) (p : Port) (a : Addr) : State :=
  match s.slot a with
  | none => s
  | some o =>
    if (o.marks.clear p).isDone then s.emptySlot a
    else { s with loop := { s.loop with
      orders := put s.loop.orders a (some { o with marks := o.marks.clear p }) } }

/-- A port's mark is removed from a segment. -/
def Answer.clearMark (x : Answer) (i : Nat) (p : Port) : Answer :=
  { x with segs := x.segs.modify i fun g => { g with marks := g.marks.clear p } }

/-- No segment bears a mark. -/
def Answer.isDone (x : Answer) : Bool := x.segs.all fun g => g.marks.isDone

/-- The answer whose being done brings RESTART into effect (R186). -/
def Answer.isRestart (x : Answer) : Bool := x.code == 14 && x.result == .done

/-- A done answer leaves the FIFO; the answer of RESTART brings its effect. -/
def State.popAnswer (s : State) (x : Answer) (rest : List Answer) : State :=
  let s := { s with loop := { s.loop.disown (.answer 0) with answers := rest } }
  if x.isRestart then s.restartEffect else s

def State.sentSegment (s : State) (p : Port) (i : Nat) : State :=
  match s.loop.answers with
  | [] => s
  | x :: rest =>
    let y := x.clearMark i p
    if y.isDone then s.popAnswer y rest
    else { s with loop := { s.loop with answers := y :: rest } }

def State.sentNotice (s : State) (p : Port) : State :=
  match s.loop.notice with
  | none => s
  | some n =>
    if (n.marks.clear p).isDone then
      { s with loop := { s.loop.disown .notice with notice := none } }
    else { s with loop := { s.loop with notice := some { n with marks := n.marks.clear p } } }

/-- The entry of a completed insertion, its content not replaced since it began. -/
def State.sent (s : State) (p : Port) : EntryRef → State
  | .order a => s.sentOrder p a
  | .answer i => s.sentSegment p i
  | .notice => s.sentNotice p

/-- An inserted frame has been sent to its closing delimiter. -/
def State.inserted (s : State) (p : Port) : State :=
  match (s.port p).tx with
  | .inserting r _ stale =>
    let s := s.modPort p fun x => { x with tx := .idle, lastEnd := .closed }.startForward
    if stale then s else s.sent p r
  | .idle | .forwarding => s

end Sys2Proof.Machine
end

