-- ==== Sys2Proof/Machine/Expiry.lean ====
section
/-! DEFINITION. Expiries of the timers, one operation for each timer; an expiry command for a timer that is stopped
changes nothing (log entry 3). -/

namespace Sys2Proof.Machine

/-- The expiry of a timer: where it runs, the clock reaches its time and the event is taken. -/
def State.expire (s : State) (t : Timer) (f : State → State) : State :=
  match t with
  | none => s
  | some d => f (s.reach (some d))

/-- The expiry of a set's supervision timer in the state that gives the timer its name (R80). -/
def State.expireSup (s : State) (g : Fin 8) (x : GenState) (f : State → State) : State :=
  if (s.gen g).state == x then s.expire (s.gen g).sup f else s

/-- The late timer of a unit's record (R34). -/
def State.lateExpiry (s : State) (u : UnitRef) : State :=
  s.expire (s.lateTimer u) fun s => s.lateDone u

/-- The lost timer of a source's entry (R13). -/
def State.lostExpiry (s : State) (src : Addr) : State :=
  if h : src.val < 63 then
    let i : Fin 63 := ⟨src.val, h⟩
    s.expire s.loop.dup[i].lost fun s => s.sourceLost src i
  else s

/-- A balance round expiry: the commit boundary, the restart of the timer, the round (R44). -/
def State.roundExpiry (s : State) : State :=
  s.expire s.bal.roundTimer fun s => s.commitBoundary.restartRound.round

/-- Whether a start is still requested for a set whose rest time has passed (R86, R62). The figures stay
valid until the next round expiry makes them invalid (R44, R45), also where the rest time passes in BLACKOUT
before it, where R106 takes them as invalid already (DEDUCED, log entry 41). -/
def State.stillWanted (s : State) (g : Fin 8) : Bool :=
  (s.bal.fig.valid && s.bal.fig.startNeed) || s.holdsRequest g

def State.crankExpiry (s : State) (g : Fin 8) : State :=
  s.expireSup g .cranking fun s => (s.failedAttempt g).drain

def State.restExpiry (s : State) (g : Fin 8) : State :=
  s.expireSup g .resting fun s => (s.restDone g (s.stillWanted g)).drain

def State.warmExpiry (s : State) (g : Fin 8) : State :=
  s.expireSup g .warmup fun s => (s.warmDone g).drain

def State.hotExpiry (s : State) (g : Fin 8) : State :=
  s.expireSup g .hot fun s => (s.enterCooldown g).drain

def State.syncExpiry (s : State) (g : Fin 8) : State :=
  s.expireSup g .syncing fun s => (s.failedClose g).drain

def State.unloadExpiry (s : State) (g : Fin 8) : State :=
  s.expireSup g .unloading fun s => (s.unloadDone g).drain

def State.coolExpiry (s : State) (g : Fin 8) : State :=
  s.expireSup g .cooldown fun s => (s.enterStopping g).drain

def State.stopExpiry (s : State) (g : Fin 8) : State :=
  s.expireSup g .stopping fun s => (s.enterNotReady g).drain

/-- The time at which a min-run timer expires, where it runs. -/
def MinRun.timer : MinRun → Timer
  | .running t => some t
  | .stopped | .expired => none

/-- R92. -/
def State.minRunExpiry (s : State) (g : Fin 8) : State :=
  s.expire (s.gen g).minRun.timer fun s => s.modGen g fun j => { j with minRun := .expired }

/-- R114. -/
def State.confirmDone (s : State) (f : Fin 32) : State :=
  s.expire (s.fdr f).confirm fun s => s.confirmExpiry f

/-- R116. -/
def State.delayExpiry (s : State) (n : Fin 6) : State :=
  if s.shed.stages[n].cond == .armed then s.expire s.shed.stages[n].delay fun s => s.fireStage n
  else s

def State.modShed (s : State) (f : Shedding → Shedding) : State := { s with shed := f s.shed }

/-- R119. -/
def State.recoverExpiry (s : State) : State := s.expire s.shed.recover fun s => s.endEvent

/-- R124. -/
def State.dwellExpiry (s : State) : State :=
  s.expire s.shed.dwell fun s => s.modShed fun x => { x with dwell := none, dwellMet := true }

/-- R125. -/
def State.intervalExpiry (s : State) : State :=
  s.expire s.shed.interval fun s => s.modShed fun x => { x with interval := none }

/-- R123. -/
def State.secondTick (s : State) : State := s.modShed fun x => { x with seconds := x.seconds + 1 }

/-- R136. -/
def State.surveyExpiry (s : State) : State := s.expire s.bs.survey fun s => s.surveyDone.drain

/-- R141. -/
def State.clearDownExpiry (s : State) : State :=
  s.expire s.bs.clearDown fun s => s.clearDownDone.drain

/-- R147. -/
def State.limitExpiry (s : State) : State := s.expire s.bs.limit fun s => s.limitDone.drain

/-- R146. -/
def State.energizeExpiry (s : State) : State :=
  s.expire s.bs.energize fun s => s.energizeDone.drain

/-- R150. -/
def State.stepExpiry (s : State) : State :=
  s.expire s.bs.stepInterval fun s => s.modBs fun b => { b with stepInterval := none }

/-- R151. -/
def State.capacityExpiry (s : State) : State :=
  s.expire s.bs.capacityHold fun s => s.modBs fun b => { b with capacityHold := none }

/-- A PV hold or a PV gap has passed in PV_RETURN (R153, R154). -/
def State.permitDone (s : State) : State :=
  if s.bs.island == .pvReturn then s.permitExpiry.drain else s

/-- R153. -/
def State.pvHoldExpiry (s : State) : State :=
  s.expire s.bs.pvHold fun s => (s.modBs fun b => { b with pvHold := none }).permitDone

/-- R153. -/
def State.pvGapExpiry (s : State) : State :=
  s.expire s.bs.pvGap fun s => (s.modBs fun b => { b with pvGap := none }).permitDone

/-- R159. -/
def State.pulseExpiry (s : State) : State := s.expire s.mode.pulse fun s => s.pulseDone

/-- R160. -/
def State.trainExpiry (s : State) : State := s.expire s.mode.train fun s => s.trainDone

/-- R164. -/
def State.lineModeExpiry (s : State) : State :=
  s.expire s.mode.lineTimer fun s => s.returnToDirective

/-- R6: the error window of a port that is UP or DEGRADED. -/
def State.windowExpiry (s : State) (p : Port) : State :=
  if (s.port p).isDown then s else s.expire (s.port p).window fun s => s.windowDone p

end Sys2Proof.Machine
end

