-- ==== Sys2Proof/Machine/ExecDirectives.lean ====
section
/-! DEFINITION. The meanings of the fourteen directives: a directive that the intake filter has accepted is taken
by the handler (chapter 10). -/

namespace Sys2Proof.Machine

/-- READ_TABLE is taken, directive code 1 (R171; R181). -/
def execReadTable (src : Addr) (token : Byte) (args : List Byte) (s : State) :
    Host.Outcome State Fault Refusal :=
  .next (s.takeDirective src 1 token args)

/-- WRITE_TABLE is taken, directive code 2 (R169, R170; R181). -/
def execWriteTable (src : Addr) (token : Byte) (args : List Byte) (s : State) :
    Host.Outcome State Fault Refusal :=
  .next (s.takeDirective src 2 token args)

/-- CLEAR_SHADOW is taken, directive code 3 (R172; R181). -/
def execClearShadow (src : Addr) (token : Byte) (args : List Byte) (s : State) :
    Host.Outcome State Fault Refusal :=
  .next (s.takeDirective src 3 token args)

/-- COMMIT is taken, directive code 4 (R173; R181). -/
def execCommit (src : Addr) (token : Byte) (args : List Byte) (s : State) :
    Host.Outcome State Fault Refusal :=
  .next (s.takeDirective src 4 token args)

/-- READ_STATUS is taken, directive code 5 (R183; R181). -/
def execReadStatus (src : Addr) (token : Byte) (args : List Byte) (s : State) :
    Host.Outcome State Fault Refusal :=
  .next (s.takeDirective src 5 token args)

/-- ACK_NOTICES is taken, directive code 6 (R188; R181). -/
def execAckNotices (src : Addr) (token : Byte) (args : List Byte) (s : State) :
    Host.Outcome State Fault Refusal :=
  .next (s.takeDirective src 6 token args)

/-- READ_UNIT is taken, directive code 7 (R184; R181). -/
def execReadUnit (src : Addr) (token : Byte) (args : List Byte) (s : State) :
    Host.Outcome State Fault Refusal :=
  .next (s.takeDirective src 7 token args)

/-- READ_BALANCE is taken, directive code 8 (R185; R181). -/
def execReadBalance (src : Addr) (token : Byte) (args : List Byte) (s : State) :
    Host.Outcome State Fault Refusal :=
  .next (s.takeDirective src 8 token args)

/-- READ_STACK is taken, directive code 9 (R185, R132; R181). -/
def execReadStack (src : Addr) (token : Byte) (args : List Byte) (s : State) :
    Host.Outcome State Fault Refusal :=
  .next (s.takeDirective src 9 token args)

/-- SET_MODE is taken, directive code 10 (R158; R181). -/
def execSetMode (src : Addr) (token : Byte) (args : List Byte) (s : State) :
    Host.Outcome State Fault Refusal :=
  .next (s.takeDirective src 10 token args)

/-- CLEAR_LOCKOUT is taken, directive code 11 (R95; R181). -/
def execClearLockout (src : Addr) (token : Byte) (args : List Byte) (s : State) :
    Host.Outcome State Fault Refusal :=
  .next (s.takeDirective src 11 token args)

/-- BLACK_START is taken, directive code 12 (R142, R148; R181). -/
def execBlackStart (src : Addr) (token : Byte) (args : List Byte) (s : State) :
    Host.Outcome State Fault Refusal :=
  .next (s.takeDirective src 12 token args)

/-- ABANDON is taken, directive code 13 (R149; R181). -/
def execAbandon (src : Addr) (token : Byte) (args : List Byte) (s : State) :
    Host.Outcome State Fault Refusal :=
  .next (s.takeDirective src 13 token args)

/-- RESTART is taken, directive code 14 (R186; R181). -/
def execRestart (src : Addr) (token : Byte) (args : List Byte) (s : State) :
    Host.Outcome State Fault Refusal :=
  .next (s.takeDirective src 14 token args)

end Sys2Proof.Machine
end

