-- ==== Sys2Proof/Machine/ExecGensets.lean ====
section
/-! DEFINITION. The meanings of the expiries of the picture store, the balance engine and the set sequencer. -/

namespace Sys2Proof.Machine

/-- LATE_TIMER_EXPIRY (R34). -/
def execLateTimerExpiry (u : UnitRef) (s : State) :
    Host.Outcome State Fault Refusal :=
  .next (s.lateExpiry u)

/-- ROUND_TIMER_EXPIRY (R44, R175). -/
def execRoundTimerExpiry (s : State) :
    Host.Outcome State Fault Refusal :=
  .next s.roundExpiry

/-- CRANK_TIMER_EXPIRY (R84). -/
def execCrankTimerExpiry (g : Fin 8) (s : State) :
    Host.Outcome State Fault Refusal :=
  .next (s.crankExpiry g)

/-- REST_TIMER_EXPIRY (R86). -/
def execRestTimerExpiry (g : Fin 8) (s : State) :
    Host.Outcome State Fault Refusal :=
  .next (s.restExpiry g)

/-- WARM_TIMER_EXPIRY (R87). -/
def execWarmTimerExpiry (g : Fin 8) (s : State) :
    Host.Outcome State Fault Refusal :=
  .next (s.warmExpiry g)

/-- HOT_TIMER_EXPIRY (R88). -/
def execHotTimerExpiry (g : Fin 8) (s : State) :
    Host.Outcome State Fault Refusal :=
  .next (s.hotExpiry g)

/-- SYNC_TIMER_EXPIRY (R89). -/
def execSyncTimerExpiry (g : Fin 8) (s : State) :
    Host.Outcome State Fault Refusal :=
  .next (s.syncExpiry g)

/-- MIN_RUN_TIMER_EXPIRY (R92). -/
def execMinRunTimerExpiry (g : Fin 8) (s : State) :
    Host.Outcome State Fault Refusal :=
  .next (s.minRunExpiry g)

/-- UNLOAD_TIMER_EXPIRY (R93). -/
def execUnloadTimerExpiry (g : Fin 8) (s : State) :
    Host.Outcome State Fault Refusal :=
  .next (s.unloadExpiry g)

/-- COOL_TIMER_EXPIRY (R99). -/
def execCoolTimerExpiry (g : Fin 8) (s : State) :
    Host.Outcome State Fault Refusal :=
  .next (s.coolExpiry g)

/-- STOP_TIMER_EXPIRY (R99). -/
def execStopTimerExpiry (g : Fin 8) (s : State) :
    Host.Outcome State Fault Refusal :=
  .next (s.stopExpiry g)

end Sys2Proof.Machine
end

