-- ==== Sys2Proof/Machine/ExecIsland.lean ====
section
/-! DEFINITION. The meanings of the expiries of the shedding unit and the black-start controller. -/

namespace Sys2Proof.Machine

/-- CONFIRM_TIMER_EXPIRY (R114). -/
def execConfirmTimerExpiry (f : Fin 32) (s : State) :
    Host.Outcome State Fault Refusal :=
  .next (s.confirmDone f)

/-- STAGE_DELAY_EXPIRY (R116). -/
def execStageDelayExpiry (n : Fin 6) (s : State) :
    Host.Outcome State Fault Refusal :=
  .next (s.delayExpiry n)

/-- RECOVER_TIMER_EXPIRY (R119). -/
def execRecoverTimerExpiry (s : State) :
    Host.Outcome State Fault Refusal :=
  .next s.recoverExpiry

/-- RESTORE_DWELL_EXPIRY (R124). -/
def execRestoreDwellExpiry (s : State) :
    Host.Outcome State Fault Refusal :=
  .next s.dwellExpiry

/-- RESTORE_INTERVAL_EXPIRY (R125). -/
def execRestoreIntervalExpiry (s : State) :
    Host.Outcome State Fault Refusal :=
  .next s.intervalExpiry

/-- SECONDS_COUNT_TICK (R123). -/
def execSecondsCountTick (s : State) :
    Host.Outcome State Fault Refusal :=
  .next s.secondTick

/-- SURVEY_TIMER_EXPIRY (R136, R137). -/
def execSurveyTimerExpiry (s : State) :
    Host.Outcome State Fault Refusal :=
  .next s.surveyExpiry

/-- CLEAR_DOWN_TIMER_EXPIRY (R141). -/
def execClearDownTimerExpiry (s : State) :
    Host.Outcome State Fault Refusal :=
  .next s.clearDownExpiry

/-- BLACK_START_LIMIT_EXPIRY (R147). -/
def execBlackStartLimitExpiry (s : State) :
    Host.Outcome State Fault Refusal :=
  .next s.limitExpiry

/-- ENERGIZE_TIMER_EXPIRY (R146). -/
def execEnergizeTimerExpiry (s : State) :
    Host.Outcome State Fault Refusal :=
  .next s.energizeExpiry

/-- STEP_INTERVAL_EXPIRY (R150). -/
def execStepIntervalExpiry (s : State) :
    Host.Outcome State Fault Refusal :=
  .next s.stepExpiry

/-- CAPACITY_HOLD_EXPIRY (R151). -/
def execCapacityHoldExpiry (s : State) :
    Host.Outcome State Fault Refusal :=
  .next s.capacityExpiry

/-- PV_HOLD_EXPIRY (R153, R154). -/
def execPvHoldExpiry (s : State) :
    Host.Outcome State Fault Refusal :=
  .next s.pvHoldExpiry

/-- PV_GAP_EXPIRY (R153, R154). -/
def execPvGapExpiry (s : State) :
    Host.Outcome State Fault Refusal :=
  .next s.pvGapExpiry

end Sys2Proof.Machine
end

