-- ==== Sys2Proof/Machine/ExecLoop.lean ====
section
/-! DEFINITION. The meanings of the commands of the loop: reset, frames, ports, insertion, the lost timer. -/

namespace Sys2Proof.Machine

/-- POWER_UP_OR_PIN_RESET (R23, R178, R189). -/
def execPowerUpOrPinReset (strap : Addr) (mntHigh : Bool) (s : State) :
    Host.Outcome State Fault Refusal :=
  .next (s.poweredUp strap mntHigh)

/-- FRAME_RECEIVE (R2, R3, R5, R8). -/
def execFrameReceive (p : Port) (f : RxFrame) (s : State) :
    Host.Outcome State Fault Refusal :=
  .next (s.receive p f)

/-- LOSS_OF_SIGNAL (R4). -/
def execLossOfSignal (p : Port) (s : State) :
    Host.Outcome State Fault Refusal :=
  .next (s.losePort p)

/-- ERROR_WINDOW_EXPIRY (R6). -/
def execErrorWindowExpiry (p : Port) (s : State) :
    Host.Outcome State Fault Refusal :=
  .next (s.windowExpiry p)

/-- FORWARD_TRANSMIT_DONE (R10). -/
def execForwardTransmitDone (p : Port) (s : State) :
    Host.Outcome State Fault Refusal :=
  .next (s.modPort p PortState.forwarded)

/-- INSERTION_OPPORTUNITY (R16). -/
def execInsertionOpportunity (p : Port) (s : State) :
    Host.Outcome State Fault Refusal :=
  .next (s.opportunity p)

/-- INSERTION_COMPLETE (R17). -/
def execInsertionComplete (p : Port) (s : State) :
    Host.Outcome State Fault Refusal :=
  .next (s.inserted p)

/-- LOST_TIMER_EXPIRY (R13, R35). -/
def execLostTimerExpiry (src : Addr) (s : State) :
    Host.Outcome State Fault Refusal :=
  .next (s.lostExpiry src)

end Sys2Proof.Machine
end

