-- ==== Sys2Proof/Machine/ExecModes.lean ====
section
/-! DEFINITION. The meanings of the commands of the setting store and of mode control. -/

namespace Sys2Proof.Machine

/-- STORE_SAVE_DONE (R177). -/
def execStoreSaveDone (s : State) :
    Host.Outcome State Fault Refusal :=
  .next s.saveDone

/-- MNT_LINE_LOW (R159). -/
def execMntLineLow (s : State) :
    Host.Outcome State Fault Refusal :=
  .next s.lineLow

/-- MNT_LINE_HIGH (R159). -/
def execMntLineHigh (s : State) :
    Host.Outcome State Fault Refusal :=
  .next s.lineHigh

/-- PULSE_TIMER_EXPIRY (R159). -/
def execPulseTimerExpiry (s : State) :
    Host.Outcome State Fault Refusal :=
  .next s.pulseExpiry

/-- TRAIN_TIMER_EXPIRY (R160). -/
def execTrainTimerExpiry (s : State) :
    Host.Outcome State Fault Refusal :=
  .next s.trainExpiry

/-- LINE_MODE_TIMER_EXPIRY (R164). -/
def execLineModeTimerExpiry (s : State) :
    Host.Outcome State Fault Refusal :=
  .next s.lineModeExpiry

end Sys2Proof.Machine
end

