-- ==== Sys2Proof/Machine/Dispatch.lean ====
section
/-! DEFINITION. The effect of each command on everything but the queue of waiting commands. -/

namespace Sys2Proof.Machine

def exec (i : Instr) (s : State) : Host.Outcome State Fault Refusal :=
  match i with
  | .powerUpOrPinReset strap mntHigh => Sys2Proof.Machine.execPowerUpOrPinReset strap mntHigh s
  | .frameReceive p f => Sys2Proof.Machine.execFrameReceive p f s
  | .readTable src token args => Sys2Proof.Machine.execReadTable src token args s
  | .writeTable src token args => Sys2Proof.Machine.execWriteTable src token args s
  | .clearShadow src token args => Sys2Proof.Machine.execClearShadow src token args s
  | .commit src token args => Sys2Proof.Machine.execCommit src token args s
  | .readStatus src token args => Sys2Proof.Machine.execReadStatus src token args s
  | .ackNotices src token args => Sys2Proof.Machine.execAckNotices src token args s
  | .readUnit src token args => Sys2Proof.Machine.execReadUnit src token args s
  | .readBalance src token args => Sys2Proof.Machine.execReadBalance src token args s
  | .readStack src token args => Sys2Proof.Machine.execReadStack src token args s
  | .setMode src token args => Sys2Proof.Machine.execSetMode src token args s
  | .clearLockout src token args => Sys2Proof.Machine.execClearLockout src token args s
  | .blackStart src token args => Sys2Proof.Machine.execBlackStart src token args s
  | .abandon src token args => Sys2Proof.Machine.execAbandon src token args s
  | .restart src token args => Sys2Proof.Machine.execRestart src token args s
  | .lossOfSignal p => Sys2Proof.Machine.execLossOfSignal p s
  | .errorWindowExpiry p => Sys2Proof.Machine.execErrorWindowExpiry p s
  | .forwardTransmitDone p => Sys2Proof.Machine.execForwardTransmitDone p s
  | .insertionOpportunity p => Sys2Proof.Machine.execInsertionOpportunity p s
  | .insertionComplete p => Sys2Proof.Machine.execInsertionComplete p s
  | .lostTimerExpiry src => Sys2Proof.Machine.execLostTimerExpiry src s
  | .lateTimerExpiry u => Sys2Proof.Machine.execLateTimerExpiry u s
  | .roundTimerExpiry => Sys2Proof.Machine.execRoundTimerExpiry s
  | .crankTimerExpiry g => Sys2Proof.Machine.execCrankTimerExpiry g s
  | .restTimerExpiry g => Sys2Proof.Machine.execRestTimerExpiry g s
  | .warmTimerExpiry g => Sys2Proof.Machine.execWarmTimerExpiry g s
  | .hotTimerExpiry g => Sys2Proof.Machine.execHotTimerExpiry g s
  | .syncTimerExpiry g => Sys2Proof.Machine.execSyncTimerExpiry g s
  | .minRunTimerExpiry g => Sys2Proof.Machine.execMinRunTimerExpiry g s
  | .unloadTimerExpiry g => Sys2Proof.Machine.execUnloadTimerExpiry g s
  | .coolTimerExpiry g => Sys2Proof.Machine.execCoolTimerExpiry g s
  | .stopTimerExpiry g => Sys2Proof.Machine.execStopTimerExpiry g s
  | .confirmTimerExpiry f => Sys2Proof.Machine.execConfirmTimerExpiry f s
  | .stageDelayExpiry n => Sys2Proof.Machine.execStageDelayExpiry n s
  | .recoverTimerExpiry => Sys2Proof.Machine.execRecoverTimerExpiry s
  | .restoreDwellExpiry => Sys2Proof.Machine.execRestoreDwellExpiry s
  | .restoreIntervalExpiry => Sys2Proof.Machine.execRestoreIntervalExpiry s
  | .secondsCountTick => Sys2Proof.Machine.execSecondsCountTick s
  | .surveyTimerExpiry => Sys2Proof.Machine.execSurveyTimerExpiry s
  | .clearDownTimerExpiry => Sys2Proof.Machine.execClearDownTimerExpiry s
  | .blackStartLimitExpiry => Sys2Proof.Machine.execBlackStartLimitExpiry s
  | .energizeTimerExpiry => Sys2Proof.Machine.execEnergizeTimerExpiry s
  | .stepIntervalExpiry => Sys2Proof.Machine.execStepIntervalExpiry s
  | .capacityHoldExpiry => Sys2Proof.Machine.execCapacityHoldExpiry s
  | .pvHoldExpiry => Sys2Proof.Machine.execPvHoldExpiry s
  | .pvGapExpiry => Sys2Proof.Machine.execPvGapExpiry s
  | .storeSaveDone => Sys2Proof.Machine.execStoreSaveDone s
  | .mntLineLow => Sys2Proof.Machine.execMntLineLow s
  | .mntLineHigh => Sys2Proof.Machine.execMntLineHigh s
  | .pulseTimerExpiry => Sys2Proof.Machine.execPulseTimerExpiry s
  | .trainTimerExpiry => Sys2Proof.Machine.execTrainTimerExpiry s
  | .lineModeTimerExpiry => Sys2Proof.Machine.execLineModeTimerExpiry s

end Sys2Proof.Machine
end

