-- ==== Sys2Proof/Machine/Step.lean ====
section
/-! DEFINITION. One step: the command at the front of the queue is taken. -/

namespace Sys2Proof.Machine

/-- The queue without its front command. -/
def State.dropFront (s : State) (rest : List Instr) : State := { s with pending := rest }

/-- With no command waiting, one millisecond of the model's clock passes and nothing happens
(DESIGN CHOICE, log entry 4). -/
def State.idle (s : State) : State := { s with clock := s.clock + 1 }

/-- The command at the front runs on the state with the queue's rest. -/
def step (s : State) : Host.Outcome State Fault Refusal :=
  match s.pending with
  | [] => .next s.idle
  | c :: rest => exec c (s.dropFront rest)

/-- The state with the command that a word spells at the front of its queue; no word spells one. -/
def State.withFetchWord (s : State) (nbits w : Nat) : State :=
  match Sys2Proof.decodeTableWord nbits w with
  | none => s
  | some c => { s with pending := c :: s.pending }

end Sys2Proof.Machine
end

