-- ==== Sys2Proof/Safety.lean ====
section
/-! DEFINITION. What claims are stated in: what the jobs never touch, the invariants of the part, and
the conditions under which a command has its own effect. -/

namespace Sys2Proof.Machine

/-! ## What the jobs never touch -/

/-- What the jobs leave of a port: all but its transmitter. They can cut an insertion or disown it, and
do nothing else to a port. -/
structure PortKept where
  cond       : PortCond
  goodCount  : Nat
  window     : Timer
  errTotal   : Nat
  errLength  : Bool
  errFraming : Bool
  errCheck   : Bool
  buffer     : List Frame
  overflow   : Nat
  deriving DecidableEq, Repr

def PortState.kept (x : PortState) : PortKept :=
  ⟨x.cond, x.goodCount, x.window, x.errTotal, x.errLength, x.errFraming, x.errCheck, x.buffer,
   x.overflow⟩

/-- What no operation of the four jobs changes: the clock, the picture store, mode control, the banks,
the store, the directive handler, the queue, and of the loop the strap, the duplicate table, the
answer FIFO and the ports but for their transmitters. -/
structure Kept where
  clock   : Nat
  pic     : Picture
  mode    : ModeControl
  bank    : TableBank
  store   : Store
  dir     : Directives
  pending : List Instr
  strap   : Addr
  dup     : Vector DupEntry 63
  answers : List Answer
  portE   : PortKept
  portW   : PortKept
  deriving DecidableEq, Repr

/-- The part of a state that the jobs keep. -/
def State.kept (s : State) : Kept :=
  ⟨s.clock, s.pic, s.mode, s.bank, s.store, s.dir, s.pending, s.loop.strap, s.loop.dup,
   s.loop.answers, s.loop.portE.kept, s.loop.portW.kept⟩

/-! ## Invariants -/

/-- The answer FIFO holds at most 4 entries (R181), each forwarding buffer at most two frames (R10). -/
abbrev State.QueuesBounded (s : State) : Prop :=
  s.loop.answers.length ≤ 4 ∧ s.loop.portE.buffer.length ≤ 2 ∧ s.loop.portW.buffer.length ≤ 2

/-- Only a flag that is set bears a seen mark (R187, R188). -/
abbrev State.SeenAreSet (s : State) : Prop := s.sum.seen &&& ~~~s.sum.flags = 0

/-- The law of R83. -/
abbrev State.StartsBounded (s : State) : Prop := s.startCount ≤ s.act.parallelStarts

/-- R157: while the source is DIRECTIVE the mode is the directive mode, and the line-mode timer does not
run; while it is LINE the timer runs. -/
abbrev State.ModeFollowsSource (s : State) : Prop :=
  (s.mode.source = .directive → s.mode.mode = s.mode.dirMode.toMode ∧ s.mode.lineTimer = none) ∧
  (s.mode.source = .line → s.mode.lineTimer.isSome = true)

/-- A feeder of one of these states stands on the shed stack (R123). -/
def FdrState.stacked : FdrState → Bool
  | .shedPending | .shed | .restoring => true
  | .closed | .openOther | .heldOpen | .stuck => false

/-- R123: no feeder stands on the stack twice, and a feeder is on the stack if and only if it is
SHED_PENDING, SHED or RESTORING. -/
abbrev State.StackLaw (s : State) : Prop :=
  (s.shed.stack.map (·.feeder)).Nodup ∧
  ∀ f ∈ feeders, (f ∈ s.shed.stack.map (·.feeder)) ↔ (s.fdr f).state.stacked = true

/-- Whether a transmitter is inserting an ORDER of another code than OPEN. -/
def Tx.insertsOther : Tx → Bool
  | .inserting (.order _) f _ => f.orderCode != OrderCode.open.code
  | .inserting (.answer _) _ _ | .inserting .notice _ _ | .idle | .forwarding => false

/-- The law of R165: in COMMISSIONING every order waiting or being inserted is an OPEN. -/
abbrev State.CommissioningLaw (s : State) : Prop :=
  s.mode.mode = .commissioning →
    (∀ a ∈ addresses, ∀ o ∈ s.slot a, o.code = .open) ∧
    s.loop.portE.tx.insertsOther = false ∧ s.loop.portW.tx.insertsOther = false

/-- R64, R51: the ramp base is never negative. -/
abbrev State.RampBaseSound (s : State) : Prop := 0 ≤ s.bal.rampBase

/-- No change of a genset's state waits to be handed on between two events. -/
abbrev State.HandedOn (s : State) : Prop := s.seq.changes = []

/-- A unit that is not configured has the job values of reset (R64, R79, R109), and stands on no stack. -/
abbrev State.UnitsSound (s : State) : Prop :=
  (∀ g, (s.genCfg g).configured = false → s.gen g = GenJob.reset) ∧
  (∀ b, (s.pvCfg b).configured = false → s.pv b = PvJob.reset) ∧
  ∀ f, (s.fdrCfg f).configured = false →
    s.fdr f = FdrJob.reset ∧ f ∉ s.shed.stack.map (·.feeder)

/-- What stands in the order slots agrees with the sets: an order waits at the station of a configured unit
alone, that of a set is the one that it stands ordered, and START is that of a set in CRANKING alone. -/
abbrev State.SlotsSound (s : State) : Prop :=
  (∀ a, s.slot a ≠ none → ∃ u ∈ s.act.mapped a, s.act.stationOf u = some a) ∧
  (∀ g a, s.act.stationOf (.genset g) = some a → ∀ o ∈ s.slot a, o.code = (s.gen g).order) ∧
  ∀ g, (s.gen g).order = .start → (s.gen g).state = .cranking

/-- No transmitter is inserting a START for the station of a set (R95). -/
abbrev State.SendsNoStart (s : State) (g : Fin 8) : Prop :=
  ∀ p a f stale, s.act.stationOf (.genset g) = some a →
    (s.port p).tx = .inserting (.order a) f stale → f.orderCode ≠ OrderCode.start.code

/-! ## Conditions -/

/-- The handler can take a directive: the discard window is closed and the FIFO has room (R181, R186). -/
abbrev State.CanTake (s : State) : Prop := s.dir.window = false ∧ s.loop.answers.length < 4

/-- A source may send control directives: a supervisory address, or any in UNCONFIGURED (R181). -/
abbrev State.MayControl (s : State) (src : Addr) : Prop :=
  s.supervises src = true ∨ s.bs.island = .unconfigured

/-- A reception on `p` is a good frame that passes the intake filter (R2, R8, R11, R12): the port is not
DOWN, so that its own count does not matter; the frame is not the part's own; it is offered. -/
abbrev State.Accepts (s : State) (p : Port) (rx : RxFrame) (f : Frame) (i : Fin 63) : Prop :=
  rxJudge rx = .good f ∧ (s.port p).isDown = false ∧ (lowSix f.src).val = i.val ∧
  s.loop.strap.val ≠ 63 ∧ s.ownAddr ≠ some (lowSix f.src) ∧
  (s.ownAddr = some (lowSix f.dst) ∨ (lowSix f.dst).val = 63 ∨ isReport f.kind = true) ∧
  s.uses f.kind = true ∧ s.loop.dup[i].accepts f.seq = true

/-- An accepted report is tapped for unit `u` (R25, R26). -/
abbrev State.Taps (s : State) (p : Port) (rx : RxFrame) (f : Frame) (i : Fin 63) (u : UnitRef) :
    Prop :=
  s.Accepts p rx f i ∧ isReport f.kind = true ∧ s.reportUnit (lowSix f.src) f.kind = some u ∧
  reportFormOk u f.payload = true

/-- A set stands in state `x` with its supervision timer running to `d`, and nothing waits to be handed
on. -/
abbrev State.SupRuns (s : State) (g : Fin 8) (x : GenState) (d : Nat) : Prop :=
  (s.gen g).state = x ∧ (s.gen g).sup = some d ∧ s.HandedOn

/-- The state with its clock at the time `d` of an expiring timer, or later where the clock has passed it
already (log entry 3). -/
abbrev State.at (s : State) (d : Nat) : State := { s with clock := max s.clock d }

/-- Between `s` and `t` only the record of one set, its order slot, the outbound counters, the notices
and the transmitters can differ. -/
abbrev State.OnlySet (s t : State) (g : Fin 8) : Prop :=
  t.kept = s.kept ∧ t.bal = s.bal ∧ t.cur = s.cur ∧ t.shed = s.shed ∧ t.bs = s.bs ∧
  (∀ k, k ≠ g → t.gen k = s.gen k) ∧
  ∀ a, s.act.stationOf (.genset g) ≠ some a → t.slot a = s.slot a

/-- Whether a transmitter inserts an ORDER frame that carries no order code of 11.2, or NONE. -/
def Tx.insertsNoOrder : Tx → Bool
  | .inserting (.order _) f _ => f.orderCode == 0 || decide (11 < f.orderCode.toNat)
  | .inserting (.answer _) _ _ | .inserting .notice _ _ | .idle | .forwarding => false

/-- Orders are orders: no slot holds NONE, no transmitter inserts a frame of no order code, and a feeder
stands ordered OPEN, CLOSE or NONE. -/
abbrev State.OrdersSound (s : State) : Prop :=
  (∀ a ∈ addresses, ∀ o ∈ s.slot a, o.code ≠ .none) ∧
  (∀ f ∈ feeders, (s.fdr f).order = .none ∨ (s.fdr f).order = .open ∨ (s.fdr f).order = .close) ∧
  s.loop.portE.tx.insertsNoOrder = false ∧ s.loop.portW.tx.insertsNoOrder = false

/-- A directive as check 4 of R181 and the forms of 11.4 have it: its code, its command, whether any source
may send it, and its argument length; `none` for WRITE TABLE, which needs its table and index. -/
structure DirectiveRow where
  code      : Byte
  make      : Addr → Byte → List Byte → Instr
  anySource : Bool
  length    : Option Nat

/-- Whether an argument length is the form of the row. -/
abbrev DirectiveRow.Fits (x : DirectiveRow) (n : Nat) : Prop :=
  match x.length with
  | some k => n = k
  | none => 2 ≤ n

/-- The fourteen directives. -/
def directiveRows : List DirectiveRow :=
  [⟨1, .readTable, true, some 3⟩, ⟨2, .writeTable, false, none⟩,
   ⟨3, .clearShadow, false, some 1⟩, ⟨4, .commit, false, some 0⟩,
   ⟨5, .readStatus, true, some 0⟩, ⟨6, .ackNotices, false, some 2⟩,
   ⟨7, .readUnit, true, some 2⟩, ⟨8, .readBalance, true, some 0⟩,
   ⟨9, .readStack, true, some 0⟩, ⟨10, .setMode, false, some 1⟩,
   ⟨11, .clearLockout, false, some 1⟩, ⟨12, .blackStart, false, some 0⟩,
   ⟨13, .abandon, false, some 0⟩, ⟨14, .restart, false, some 0⟩]

/-- The ages of the waiting orders lie within one half of the counter's circle, from `base` on, so that
"older" orders them (R19). -/
abbrev State.AgesFrom (s : State) (base : BitVec 32) : Prop :=
  ∀ a ∈ addresses, ∀ o ∈ s.slot a, (o.age - base).toNat < 2147483648

/-- A slot of a class waits on a port. -/
abbrev State.Waits (s : State) (p : Port) (c : OrderClass) (a : Addr) (o : OrderSlot) : Prop :=
  s.slot a = some o ∧ o.cls = c ∧ o.marks.on p = true

/-- A block that the next permit of PV_RETURN can go to: configured, not LOST, above the pointer (R153). -/
abbrev State.Permittable (s : State) (b : Fin 16) : Prop :=
  (s.pvCfg b).configured = true ∧ (s.pvRec b).fresh ≠ .lost ∧
  ∀ p ∈ s.bs.permitPtr, p < (s.pvCfg b).reconnect

/-- A counter qualifies its condition (R38): it stands at the qualification count in force, which is at
least 1 (R192). -/
abbrev State.Qual (s : State) (n : Nat) : Prop := 0 < n ∧ s.act.qualCount ≤ n

/-! ## What a set comes to -/

/-- From `s` to `t` an order has been placed in the slot of a unit's station, over what stood there: with its
code, tag and cap, under the hop count in force, pending on the ports that are not DOWN, or held on both, and
of its class or of the higher one of the slot that it finds pending (R19, R20). -/
abbrev State.Places (s t : State) (u : UnitRef) (code : OrderCode) (tag : Byte) (cap : Nat)
    (cls : OrderClass) : Prop :=
  ∀ a, s.act.stationOf u = some a → ∃ o, t.slot a = some o ∧ o.code = code ∧ o.tag = tag ∧
    o.cap = cap ∧ o.hop = s.act.hopCount ∧ o.marks = s.newMarks ∧
    o.cls = if ∃ x ∈ s.slot a, x.cls = .urgent then .urgent else cls

/-- From `s` to `t` the slot of a unit's station has been emptied, and no other slot has changed (R21). -/
abbrev State.EmptiesSlot (s t : State) (u : UnitRef) : Prop :=
  ∀ a, t.slot a = if s.act.stationOf u = some a then none else s.slot a

/-- From `s` to `t` a set keeps what it stands ordered, and its slot. -/
abbrev State.KeepsOrder (s t : State) (g : Fin 8) : Prop :=
  (t.gen g).order = (s.gen g).order ∧ (t.gen g).tag = (s.gen g).tag ∧
  (t.gen g).sendCount = (s.gen g).sendCount ∧ (t.gen g).lastSend = (s.gen g).lastSend ∧
  (t.gen g).taken = (s.gen g).taken ∧ (t.gen g).unanswered = (s.gen g).unanswered ∧
  (t.gen g).cls = (s.gen g).cls ∧
  ∀ a, s.act.stationOf (.genset g) = some a → t.slot a = s.slot a

/-- From `s` to `t` a set has come to stand ordered `o`, class ROUTINE, at the clock of `s` (R102, R105).
NONE keeps the tag and empties the slot; the code that stands already is no new order. A new order takes the
next tag and is placed in the slot and sent; in COMMISSIONING any but OPEN is recorded unsent, and the slot
emptied. -/
abbrev State.Stands (s t : State) (g : Fin 8) (o : OrderCode) : Prop :=
  if o = .none then
    (t.gen g).order = .none ∧ (t.gen g).tag = (s.gen g).tag ∧ (t.gen g).sendCount = 0 ∧
    (t.gen g).taken = false ∧ (t.gen g).unanswered = false ∧
    (t.gen g).lastSend = (s.gen g).lastSend ∧ (t.gen g).cls = (s.gen g).cls ∧
    ∀ a, s.act.stationOf (.genset g) = some a → t.slot a = none
  else if (s.gen g).order = o then s.KeepsOrder t g
  else
    (t.gen g).order = o ∧ (t.gen g).tag = (s.gen g).tag + 1 ∧ (t.gen g).taken = false ∧
    (t.gen g).unanswered = false ∧ (t.gen g).cls = .routine ∧
    if s.mode.mode = .commissioning ∧ o ≠ .open then
      (t.gen g).sendCount = 0 ∧ (t.gen g).lastSend = none ∧
      ∀ a, s.act.stationOf (.genset g) = some a → t.slot a = none
    else (t.gen g).sendCount = 1 ∧ (t.gen g).lastSend = some s.clock ∧
      s.Places t (.genset g) o ((s.gen g).tag + 1) 0 .routine

/-- From `s` to `t` a set has entered COOLDOWN at the clock of `s`, standing ordered OPEN, its cool timer
running where its breaker is shown open; a cool time of 0 has taken it on to STOPPING at once, ordered OPEN
first and then STOP (R98, R99, R80). -/
abbrev State.CoolsDown (s t : State) (g : Fin 8) : Prop :=
  if s.genShows g .open = true ∧ (s.genCfg g).coolTime = 0 then
    (t.gen g).state = .stopping ∧ (t.gen g).sup = some (s.clock + (s.genCfg g).stopTime * 1000) ∧
    ∃ u : State, u.kept = s.kept ∧ s.Stands u g .open ∧ u.Stands t g .stop
  else
    (t.gen g).state = .cooldown ∧ s.Stands t g .open ∧
    (t.gen g).sup = (if s.genShows g .open = true then
      some (s.clock + (s.genCfg g).coolTime * 1000) else none)

/-- From `s` to `t` a set in SYNCING has gone to HOT: standing NONE, the mark cleared, the hot timer running,
or with a hot time of 0 COOLDOWN entered at once (R80, R88, R106). -/
abbrev State.GoesHot (s t : State) (g : Fin 8) : Prop :=
  (t.gen g).mark = false ∧ (t.gen g).attempts = (s.gen g).attempts ∧ (t.gen g).minRun = .stopped ∧
  if (s.genCfg g).coolTime + (s.genCfg g).warmTime = 0 then
    ∃ u : State, u.kept = s.kept ∧ s.Stands u g .none ∧ u.CoolsDown t g
  else (t.gen g).state = .hot ∧ s.Stands t g .none ∧ (t.gen g).sup =
      some (s.clock + ((s.genCfg g).coolTime + (s.genCfg g).warmTime) * 1000)

/-- From `s` to `t` one set has come to state `x` with standing order `o` and supervision timer `sup`, no
flag has been raised and nothing else has changed. -/
abbrev State.Enters (s t : State) (g : Fin 8) (x : GenState) (o : OrderCode) (sup : Timer) : Prop :=
  s.OnlySet t g ∧ t.sum = s.sum ∧ (t.gen g).state = x ∧ s.Stands t g o ∧ (t.gen g).sup = sup

/-- The same for a set that keeps what it stands ordered. -/
abbrev State.EntersKeeping (s t : State) (g : Fin 8) (x : GenState) (sup : Timer) : Prop :=
  s.OnlySet t g ∧ t.sum = s.sum ∧ (t.gen g).state = x ∧ s.KeepsOrder t g ∧ (t.gen g).sup = sup

/-- NOT_READY or STANDBY entered plainly (R80). -/
abbrev State.EntersPlainly (s t : State) (g : Fin 8) (x : GenState) : Prop :=
  s.Enters t g x .none none ∧ (t.gen g).minRun = .stopped ∧ (t.gen g).mark = false ∧
  (t.gen g).attempts = (s.gen g).attempts

/-- The set has entered COOLDOWN at the clock of `s` (R98), and nothing else has changed. -/
abbrev State.EntersCooldown (s t : State) (g : Fin 8) : Prop :=
  s.OnlySet t g ∧ t.sum = s.sum ∧ s.CoolsDown t g ∧ (t.gen g).minRun = .stopped ∧
  (t.gen g).mark = false

/-- The set has entered LOCKOUT with a standing order (R95). An insertion of a START for the set has been
cut, also one whose slot had lost that content (log entry 11). -/
abbrev State.LocksOut (s t : State) (g : Fin 8) (o : OrderCode) : Prop :=
  (t.gen g).state = .lockout ∧ s.Stands t g o ∧ (t.gen g).sup = none ∧
  (t.gen g).minRun = .stopped ∧ t.sum.has .lockout = true ∧
  ∀ p a f stale, (s.port p).tx = .inserting (.order a) f stale →
    s.act.stationOf (.genset g) = some a → f.orderCode = OrderCode.start.code →
    (t.port p).lastEnd = .aborted ∧
    (t.port p).tx = if (s.port p).buffer = [] then .idle else .forwarding

/-- A failed attempt as the set shows it (R85). -/
abbrev State.FailedAttempt (s t : State) (g : Fin 8) : Prop :=
  t.sum.has .startFailed = true ∧ (t.gen g).mark = false ∧
  (t.gen g).attempts = (s.gen g).attempts ∧
  if (s.gen g).attempts < (s.genCfg g).maxAttempts then
    s.Stands t g .stop ∧
    if (s.gen g).state = .hot ∧ s.act.parallelStarts ≤ s.startCount then
      (t.gen g).state = .stopping ∧ (t.gen g).sup = some (s.clock + (s.genCfg g).stopTime * 1000)
    else (t.gen g).state = .resting ∧ (t.gen g).sup = some (s.clock + (s.genCfg g).restTime * 1000)
  else s.LocksOut t g .stop

/-- The notice summary after a failed attempt or a failed close: START_FAILED, and LOCKOUT where the attempts
are used up (R85, R90, R95). -/
def State.failFlags (s : State) (g : Fin 8) : Summary :=
  if (s.gen g).attempts < (s.genCfg g).maxAttempts then s.sum.setFlag .startFailed
  else (s.sum.setFlag .startFailed).setFlag .lockout

/-- The set has taken a failed attempt, and nothing else has changed but its flags (R85). -/
abbrev State.FailsAttempt (s t : State) (g : Fin 8) : Prop :=
  s.OnlySet t g ∧ t.sum = s.failFlags g ∧ s.FailedAttempt t g

/-- A failed close as the set shows it (R90). -/
abbrev State.FailedClose (s t : State) (g : Fin 8) : Prop :=
  t.sum.has .startFailed = true ∧ (t.gen g).mark = false ∧
  (t.gen g).attempts = (s.gen g).attempts ∧
  if (s.gen g).attempts < (s.genCfg g).maxAttempts then s.CoolsDown t g
  else s.LocksOut t g .open

/-- The set has taken a failed close, and nothing else has changed but its flags (R90). -/
abbrev State.FailsClose (s t : State) (g : Fin 8) : Prop :=
  s.OnlySet t g ∧ t.sum = s.failFlags g ∧ s.FailedClose t g

/-- The set has entered SYNCING with a standing close (R89). -/
abbrev State.EntersSyncing (s t : State) (g : Fin 8) (o : OrderCode) : Prop :=
  s.Enters t g .syncing o (some (s.clock + (s.genCfg g).syncTime * 1000)) ∧
  (t.gen g).attempts = (s.gen g).attempts

/-- The warm time of a set has passed, at the clock of `s` (R87). -/
abbrev State.EndsWarm (s t : State) (g : Fin 8) : Prop :=
  if s.genLost g = true then s.FailsAttempt t g
  else if s.bs.island.live = true then s.EntersSyncing t g .closeSync
  else if s.bs.island = .firstSource ∧ (s.gen g).mark = true then
    s.EntersSyncing t g .closeDead ∧ (t.gen g).mark = true
  else if (s.genCfg g).coolTime + (s.genCfg g).warmTime = 0 then
    ∃ u : State, s.Enters u g .hot .none none ∧ u.EntersCooldown t g
  else s.Enters t g .hot .none
    (some (s.clock + ((s.genCfg g).coolTime + (s.genCfg g).warmTime) * 1000))

/-- A set has come to rest in NOT_READY or STANDBY: standing NONE, its timers stopped. -/
abbrev State.Rests (s t : State) (g : Fin 8) (x : GenState) : Prop :=
  (t.gen g).state = x ∧ s.Stands t g .none ∧ (t.gen g).sup = none ∧ (t.gen g).minRun = .stopped

/-- A set has entered CRANKING at the clock of `s` with an attempt count (R82, R86). -/
abbrev State.EntersCranking (s t : State) (g : Fin 8) (attempts : Nat) : Prop :=
  s.Enters t g .cranking .start (some (s.clock + (s.genCfg g).crankTime * 1000)) ∧
  (t.gen g).attempts = attempts ∧ (t.gen g).minRun = .stopped

/-! ## What the island comes to -/

/-- Every configured feeder in HELD_OPEN is confirmed open or LOST (R141). -/
abbrev State.Settled (s : State) : Prop :=
  ∀ f, (s.fdrCfg f).configured = true → (s.fdr f).state = .heldOpen →
    (s.fdr f).openConfirmed = true ∨ (s.fdrRec f).fresh = .lost

/-- A feeder has taken the state of its last report and stands ordered nothing, its slot empty (R128,
R130). -/
abbrev State.TakesReported (s t : State) (f : Fin 32) : Prop :=
  t.fdr f = { s.fdr f with
    state := if s.fdrShows f .closed = true then .closed else .openOther
    order := .none, confirm := none, sendCount := 0, taken := false, unanswered := false } ∧
  ∀ a, s.act.stationOf (.feeder f) = some a → t.slot a = none

/-- The clear-down has been ordered of three blocks (R66, R106, R129), in another mode than COMMISSIONING:
every configured feeder OPEN and every configured PV block DISCONNECT; of the sets, those on line OPEN, those
in SYNCING to HOT, the others as they were. A feeder that is not configured is taken off the stack where it
stands there (R128); one that is held open without being configured, which no run reaches, is left to the
settle request; every other order slot is kept. -/
abbrev State.ClearsDown (s t : State) : Prop :=
  (∀ f, if (s.fdrCfg f).configured = true then
      t.fdr f = { s.fdr f with
        state := .heldOpen, order := .open, tag := (s.fdr f).tag + 1, sendCount := 1
        lastSend := some s.clock, taken := false, unanswered := false, cls := .urgent
        confirm := none, openConfirmed := s.fdrShows f .open } ∧
      s.Places t (.feeder f) .open ((s.fdr f).tag + 1) 0 .urgent
    else if f ∈ s.shed.stack.map (·.feeder) then s.TakesReported t f
    else (s.fdr f).state ≠ .heldOpen →
      t.fdr f = s.fdr f ∧ ∀ a, s.act.stationOf (.feeder f) = some a → t.slot a = s.slot a) ∧
  (∀ b, if (s.pvCfg b).configured = true then
      t.pv b = { s.pv b with
        state := .off, order := .disconnect, cap := none, tag := (s.pv b).tag + 1, sendCount := 1
        lastSend := some s.clock, taken := false, unanswered := false, cls := .urgent } ∧
      s.Places t (.pv b) .disconnect ((s.pv b).tag + 1) 0 .urgent
    else t.pv b = s.pv b ∧ ∀ a, s.act.stationOf (.pv b) = some a → t.slot a = s.slot a) ∧
  (∀ a, (∀ f, s.act.stationOf (.feeder f) ≠ some a) → (∀ b, s.act.stationOf (.pv b) ≠ some a) →
    (∀ g, s.act.stationOf (.genset g) ≠ some a) → t.slot a = s.slot a) ∧
  ∀ g, if (s.genCfg g).configured = true ∧ (s.gen g).state.onLine = true then
      t.gen g = { s.gen g with
        order := .open, tag := (s.gen g).tag + 1, sendCount := 1, lastSend := some s.clock
        taken := false, unanswered := false, cls := .urgent } ∧
      s.Places t (.genset g) .open ((s.gen g).tag + 1) 0 .urgent
    else if (s.genCfg g).configured = true ∧ (s.gen g).state = .syncing then s.GoesHot t g
    else t.gen g = s.gen g ∧ ∀ a, s.act.stationOf (.genset g) = some a → t.slot a = s.slot a

/-- Every configured feeder shows its breaker open in its last report or is LOST, so that a clear-down is
settled when it is ordered (R129, R141). -/
abbrev State.OpensAtOnce (s : State) : Prop :=
  ∀ f, (s.fdrCfg f).configured = true → s.fdrShows f .open = true ∨ (s.fdrRec f).fresh = .lost

/-- The set that R143 chooses: of the eligible sets in HOT, else of those in STANDBY, the one of lowest start
rank. -/
abbrev State.FirstChoice (s : State) (g : Fin 8) : Prop :=
  s.eligible g = true ∧
  (((s.gen g).state = .hot ∧ ∀ k, s.eligible k = true → (s.gen k).state = .hot → k ≠ g →
      (s.genCfg g).startRank < (s.genCfg k).startRank) ∨
    ((s.gen g).state = .standby ∧ (∀ k, s.eligible k = true → (s.gen k).state ≠ .hot) ∧
      ∀ k, s.eligible k = true → (s.gen k).state = .standby → k ≠ g →
        (s.genCfg g).startRank < (s.genCfg k).startRank))

/-- What the entry to ABANDONED does to the sets: those in SYNCING go to HOT, and the marks are cleared but
on an ONLINE set (R106); the other slots are kept. -/
abbrev State.AbandonsSets (s t : State) : Prop :=
  (∀ g, if (s.gen g).state = .syncing then s.GoesHot t g
    else t.gen g = { s.gen g with mark := (s.gen g).mark && (s.gen g).state == .online }) ∧
  ∀ a, (∀ g, (s.gen g).state = .syncing → s.act.stationOf (.genset g) ≠ some a) → t.slot a = s.slot a

/-- The shedding unit after the end of the UF event and of the dwell (R130). -/
def Shedding.ended (x : Shedding) : Shedding :=
  { x with
    stages := Vector.replicate 6 ⟨.idle, none⟩, recover := none, ufActive := false, shedEvent := 0
    dwell := none, dwellMet := false }

/-- ABANDONED has been entered (R148): every timer of the controller is cancelled and a held start request
cleared, the sets are dealt with (R106), the UF event ends (R130); the sets apart, nothing else changes but
the two flags. -/
abbrev State.EntersAbandoned (s t : State) : Prop :=
  t.kept = s.kept ∧ t.bal = s.bal ∧ t.cur = s.cur ∧ t.shed = s.shed.ended ∧
  t.bs = { s.bs with
    island := .abandoned, phase := .none, held := false, surveyEnded := false, survey := none
    clearDown := none, limit := none, energize := none, stepInterval := none
    capacityHold := none, pvHold := none, pvGap := none } ∧
  t.sum = (s.sum.setFlag .islandStateChange).setFlag .bsAbandoned ∧ s.AbandonsSets t

/-- FIRST_SOURCE has been entered, or ABANDONED where every eligible set is in LOCKOUT (R143, R144). The
set chosen is started with the mark where a start slot is free (R82, R143); no other set changes, and no order
slot but a set's. -/
abbrev State.EntersFirstSource (s t : State) : Prop :=
  if s.allLockedOut = true then s.EntersAbandoned t
  else
    t.kept = s.kept ∧ t.cur = s.cur ∧ t.bal = s.bal ∧
    t.shed = (if s.bs.island = .energizing then s.shed.ended else s.shed) ∧
    t.bs = { s.bs with
      island := .firstSource, phase := .none, survey := none, surveyEnded := false } ∧
    t.sum = s.sum.setFlag .islandStateChange ∧
    (∀ a, (∀ g, s.act.stationOf (.genset g) ≠ some a) → t.slot a = s.slot a) ∧
    (∀ g, (t.gen g = s.gen g ∧ ∀ a, s.act.stationOf (.genset g) = some a → t.slot a = s.slot a) ∨
      (s.eligible g = true ∧ ((s.gen g).state = .hot ∨ (s.gen g).state = .standby) ∧
        (t.gen g).mark = true ∧ ∀ k, k ≠ g → t.gen k = s.gen k)) ∧
    ∀ g, s.FirstChoice g → s.mode.mode ≠ .commissioning → (∀ k, (s.gen k).mark = false) →
      s.startCount < s.act.parallelStarts →
      (t.gen g).mark = true ∧
      if (s.gen g).state = .hot then
        (t.gen g).state = .syncing ∧ s.Stands t g .closeDead ∧
        (t.gen g).sup = some (s.clock + (s.genCfg g).syncTime * 1000) ∧
        (t.gen g).attempts = (s.gen g).attempts
      else
        (t.gen g).state = .cranking ∧ s.Stands t g .start ∧
        (t.gen g).sup = some (s.clock + (s.genCfg g).crankTime * 1000) ∧
        (t.gen g).attempts = min ((s.gen g).attempts + 1) (s.genCfg g).maxAttempts

/-- The clear-down is complete, at once or later: its timer is stopped, the feeders held open that are not
known open become STUCK (R129, R141), and the phase is WAITING; in AUTO the controller goes on (R142). -/
abbrev State.EndsClearDown (s t : State) : Prop :=
  ∃ u : State, u.kept = s.kept ∧ u.bal = s.bal ∧ u.cur = s.cur ∧ u.seq = s.seq ∧
    { u.shed with jobs := s.shed.jobs } = s.shed ∧
    u.bs = { s.bs with phase := .waiting, clearDown := none } ∧
    (∀ f, if (s.fdr f).state = .heldOpen ∧ (s.fdr f).openConfirmed = false ∧
          (s.fdrRec f).fresh ≠ .lost then
        u.fdr f = { s.fdr f with
          state := .stuck, order := .none, sendCount := 0, taken := false, unanswered := false } ∧
        u.sum = s.sum.setFlag .feederStuck ∧
        ∀ a, s.act.stationOf (.feeder f) = some a → u.slot a = none
      else u.fdr f = s.fdr f ∧
        ∀ a, s.act.stationOf (.feeder f) = some a → u.slot a = s.slot a) ∧
    (∀ a, (∀ f, s.act.stationOf (.feeder f) ≠ some a) → u.slot a = s.slot a) ∧
    ((∀ f, (s.fdr f).state = .heldOpen → (s.fdr f).openConfirmed = true ∨ (s.fdrRec f).fresh = .lost) →
      u.sum = s.sum) ∧
    if s.mode.mode = .auto then u.EntersFirstSource t else t = u

/-- The clear-down has been ordered and judged at that moment (R140 to R142), and the stack emptied (R128);
`b` is the controller's part before it. Where it is complete, the phase is WAITING, and in AUTO the controller
goes on. -/
abbrev State.OrdersClearDown (s t : State) (b : BlackStart) : Prop :=
  ∃ u : State, s.ClearsDown u ∧ u.kept = s.kept ∧ u.bal = s.bal ∧
  ((∀ f, (s.fdrCfg f).configured = false → (s.fdr f).state ≠ .heldOpen) → u.sum = s.sum) ∧
  { u.cur with jobs := s.cur.jobs } = s.cur ∧
  { u.shed with jobs := s.shed.jobs } = { s.shed with stack := [] } ∧
  (u.bs = { b with
    phase := if s.OpensAtOnce then .waiting else .clearing
    clearDown := if s.OpensAtOnce then none else some (s.clock + s.act.clearDownTime * 1000) }) ∧
  if s.OpensAtOnce ∧ s.mode.mode = .auto then u.EntersFirstSource t
  else
    t.kept = u.kept ∧ t.bal = u.bal ∧ t.cur = u.cur ∧ t.seq = u.seq ∧ t.shed = u.shed ∧
    (∀ a, t.slot a = u.slot a) ∧ t.bs = u.bs ∧ t.sum = u.sum

/-- BLACKOUT has been entered (R140): DEFERRED in COMMISSIONING, the UF event ended and the stack emptied
(R128), else with its clear-down. ISLAND_STATE_CHANGE is raised (R135). -/
abbrev State.EntersBlackout (s t : State) : Prop :=
  t.kept = s.kept ∧ t.bal = s.bal ∧
  { t.shed with jobs := s.shed.jobs } = { s.shed.ended with stack := [] } ∧
  ∀ b : BlackStart, b = { s.bs with
      island := .blackout, phase := .none, survey := none, surveyEnded := false, stepPtr := none
      permitPtr := none, limitExpired := false, permitDue := false, held := false, energize := none
      stepInterval := none, capacityHold := none, pvHold := none, pvGap := none
      limit := some (s.clock + s.act.blackStartLimit * 1000) } →
    if s.mode.mode = .commissioning then
      t.bs = { b with phase := .deferred } ∧ t.cur = s.cur ∧ t.seq = s.seq ∧
      t.sum = s.sum.setFlag .islandStateChange ∧
      (∀ f, if f ∈ s.shed.stack.map (·.feeder) then s.TakesReported t f else t.fdr f = s.fdr f) ∧
      ∀ a, (∀ f ∈ s.shed.stack.map (·.feeder), s.act.stationOf (.feeder f) ≠ some a) →
        t.slot a = s.slot a
    else ({ s with
      sum := s.sum.setFlag .islandStateChange, shed := s.shed.ended }).OrdersClearDown t b

/-- The bus is lost (R139): BLACKOUT where black start is enabled, ABANDONED otherwise. -/
abbrev State.LosesBus (s t : State) : Prop :=
  if s.act.blackStartEnabled = false then s.EntersAbandoned t else s.EntersBlackout t

/-- Energize failure at the sets: each marked set that is ONLINE takes a failed close (R91), START_FAILED is
raised for it, and LOCKOUT where its attempts are used up, and nothing else changes. -/
abbrev State.FailsFirstSource (s t : State) : Prop :=
  t.kept = s.kept ∧ t.bal = s.bal ∧ t.cur = s.cur ∧ t.shed = s.shed ∧ t.bs = s.bs ∧
  (∀ a, (∀ g, s.act.stationOf (.genset g) ≠ some a) → t.slot a = s.slot a) ∧
  (∀ x : Summary,
    x = (if ∃ g, (s.gen g).state = .online ∧ (s.gen g).mark = true then s.sum.setFlag .startFailed
      else s.sum) →
    t.sum = if ∃ g, (s.gen g).state = .online ∧ (s.gen g).mark = true ∧
        (s.genCfg g).maxAttempts ≤ (s.gen g).attempts then x.setFlag .lockout else x) ∧
  ∀ g, if (s.gen g).state = .online ∧ (s.gen g).mark = true then s.FailedClose t g
    else t.gen g = s.gen g ∧ ∀ a, s.act.stationOf (.genset g) = some a → t.slot a = s.slot a

/-- The state that a genset adopts from its last tapped report at the clock of `s`, its supervision and
min-run timers cancelled first (R107). -/
abbrev State.AdoptsGen (s t : State) (g : Fin 8) : Prop :=
  (t.gen g).mark = false ∧ (t.gen g).attempts = (s.gen g).attempts ∧
  match (s.genRec g).vals with
  | none => s.Rests t g .notReady
  | some v =>
    match v.engine, v.breaker with
    | .fault, _ | .stopped, .closed => s.Rests t g .notReady
    | .running, .closed => (t.gen g).state = .online ∧ s.Stands t g .none ∧
        (t.gen g).sup = none ∧ (t.gen g).minRun = .expired
    | .running, .open => s.CoolsDown t g ∧ (t.gen g).minRun = .stopped
    | .cranking, _ => (t.gen g).state = .stopping ∧ s.Stands t g .stop ∧
        (t.gen g).sup = some (s.clock + (s.genCfg g).stopTime * 1000) ∧ (t.gen g).minRun = .stopped
    | .stopped, .open => s.Rests t g (if v.inAuto = true then .standby else .notReady)

/-- The survey has ended in adoption at the clock of `s`: the sets that are not in LOCKOUT (R107), the
stack and the feeders that are not STUCK (R130), the PV blocks (R138) take what their last tapped reports
show, every other job is kept, and BALANCING begins with the ramp base at P_S (R51). A feeder is taken off
the stack before it is adopted, whatever its state (R128). That the send count and the marks of a block go
with its order is log entry 42. -/
abbrev State.Adopts (s t : State) : Prop :=
  t.kept = s.kept ∧ t.sum = s.sum.setFlag .islandStateChange ∧
  t.bs = { s.bs with island := .balancing, phase := .none, survey := none, surveyEnded := false } ∧
  t.bal = { s.bal with rampBase := t.sumPs } ∧ { t.cur with jobs := s.cur.jobs } = s.cur ∧
  { t.shed with jobs := s.shed.jobs } = { s.shed with stack := [] } ∧
  (∀ g, if (s.genCfg g).configured = true ∧ (s.gen g).state ≠ .lockout then s.AdoptsGen t g
    else t.gen g = s.gen g ∧ ∀ a, s.act.stationOf (.genset g) = some a → t.slot a = s.slot a) ∧
  (∀ f, if f ∈ s.shed.stack.map (·.feeder) ∨
        ((s.fdrCfg f).configured = true ∧ (s.fdr f).state ≠ .stuck) then
      s.TakesReported t f
    else t.fdr f = s.fdr f ∧ ∀ a, s.act.stationOf (.feeder f) = some a → t.slot a = s.slot a) ∧
  (∀ a, (∀ f, s.act.stationOf (.feeder f) ≠ some a) → (∀ b, s.act.stationOf (.pv b) ≠ some a) →
    (∀ g, s.act.stationOf (.genset g) ≠ some a) → t.slot a = s.slot a) ∧
  ∀ b, if (s.pvCfg b).configured = true then
      t.pv b = { s.pv b with
        state := if ∃ v ∈ (s.pvRec b).vals, v.connected = true then .on else .off
        order := .none, cap := none, sendCount := 0, taken := false, unanswered := false } ∧
      ∀ a, s.act.stationOf (.pv b) = some a → t.slot a = none
    else t.pv b = s.pv b ∧ ∀ a, s.act.stationOf (.pv b) = some a → t.slot a = s.slot a

/-- The next block of PV_RETURN has been permitted at the clock of `s`, or with no block left BALANCING has
been entered (R153): ISLAND_STATE_CHANGE is raised (R135), the permit pointer has passed every configured
block, the HELD_OPEN feeders are released (R129), and every other order slot is kept. -/
abbrev State.PermitsNext (s t : State) : Prop :=
  t.kept = s.kept ∧ t.bal = s.bal ∧ t.seq = s.seq ∧
  (∀ b, s.Permittable b →
    (∀ k, s.Permittable k → k ≠ b → (s.pvCfg b).reconnect < (s.pvCfg k).reconnect) →
    t.bs = { s.bs with permitPtr := some (s.pvCfg b).reconnect
                       pvGap := some (s.clock + s.act.pvGap * 1000) } ∧
    (∀ k, k ≠ b → t.pv k = s.pv k) ∧ { t.cur with jobs := s.cur.jobs } = s.cur ∧ t.sum = s.sum ∧
    (∀ a, s.act.stationOf (.pv b) ≠ some a → t.slot a = s.slot a) ∧
    (if (s.pv b).state = .off then
      t.pv b = { s.pv b with
        state := .waiting, order := .permit, cap := none, tag := (s.pv b).tag + 1, sendCount := 1
        lastSend := some s.clock, taken := false, unanswered := false, cls := .routine } ∧
      s.Places t (.pv b) .permit ((s.pv b).tag + 1) 0 .routine
    else t.pv b = s.pv b ∧ ∀ a, t.slot a = s.slot a) ∧ t.shed = s.shed) ∧
  ((∀ b, ¬ s.Permittable b) →
    t.bs = { s.bs with
      island := .balancing, phase := .none, survey := none, surveyEnded := false
      permitPtr := t.bs.permitPtr } ∧
    (∀ b, (s.pvCfg b).configured = true → ∃ p ∈ t.bs.permitPtr, (s.pvCfg b).reconnect ≤ p) ∧
    t.sum = s.sum.setFlag .islandStateChange ∧ t.cur = s.cur ∧
    { t.shed with jobs := s.shed.jobs } = s.shed ∧
    (∀ a, (∀ f, (s.fdr f).state = .heldOpen → s.act.stationOf (.feeder f) ≠ some a) →
      t.slot a = s.slot a) ∧
    ∀ f, if (s.fdr f).state = .heldOpen then
        t.fdr f = { s.fdr f with
          state := .openOther, order := .none, confirm := none, sendCount := 0, taken := false
          unanswered := false } ∧
        ∀ a, s.act.stationOf (.feeder f) = some a → t.slot a = none
      else t.fdr f = s.fdr f)

/-- PV_RETURN has been entered from RESTORING, the awaiting mark cleared, and the PV hold started; a PV hold
of 0 ends in the same event, and the first block is judged (R51, R134, R152, R153). -/
abbrev State.EntersPvReturn (s t : State) : Prop :=
  ∃ u : State, u.kept = s.kept ∧ u.sum = s.sum.setFlag .islandStateChange ∧
    u.bal = { s.bal with rampBase := 0 } ∧ u.cur = s.cur ∧ u.seq = s.seq ∧ u.shed = s.shed ∧
    (∀ a, u.slot a = s.slot a) ∧
    u.bs = { s.bs with
      island := .pvReturn, phase := .none, survey := none, surveyEnded := false, awaiting := false
      stepInterval := none, capacityHold := none, permitPtr := none } ∧
    if s.act.pvHold = 0 then u.PermitsNext t
    else t = { u with bs := { u.bs with pvHold := some (s.clock + s.act.pvHold * 1000) } }

/-- The step `n` of table 7 can be taken next (R150): above the pointer, enabled and not empty. -/
abbrev State.StepOpen (s : State) (n : Fin 16) : Prop :=
  (∀ p ∈ s.bs.stepPtr, p < n) ∧ (s.act.steps[n]).enabled = true ∧
  ∃ f ∈ (s.act.steps[n]).named, (s.fdrCfg f).configured = true ∧ (s.fdr f).state = .heldOpen

/-! ## After reset -/

/-- The jobs, mode control and the controller have their values after a reset at the time `now` (R43, R64,
R79, R109, R133, R156, R166), but for the island state and its survey timer. -/
abbrev State.JobsReset (t : State) (now : Nat) (mntHigh : Bool) : Prop :=
  t.pic = ⟨Vector.replicate 8 ⟨none, none, .lost, none, 0, 0, 0, 0⟩,
    Vector.replicate 16 ⟨none, .lost, none⟩, Vector.replicate 32 ⟨none, .lost, none⟩,
    ⟨none, .lost, none, 0, 0, 0⟩, 0, 0⟩ ∧
  t.bal = ⟨some (now + t.act.roundPeriod),
    ⟨false, 0, 0, 0, 0, 0, 0, 0, 0, 0, 0, 0, 0, 0, 0, 0, 0, 0, false, false, none, none, none, false⟩,
    0, 0, 0, none, 0⟩ ∧
  t.cur = ⟨Vector.replicate 16 ⟨.off, .none, none, 0, 0, none, false, false, .routine, none⟩,
    #v[1000, 1000, 1000, 1000], 0, 0⟩ ∧
  t.seq = ⟨Vector.replicate 8 ⟨.notReady, none, .none, 0, 0, none, false, false, .routine, 0, false,
    none, .stopped⟩, []⟩ ∧
  t.shed = ⟨Vector.replicate 32 ⟨.openOther, .none, 0, 0, none, false, false, .routine, none, false⟩,
    Vector.replicate 6 ⟨.idle, none⟩, false, 0, none, [], none, false, none, 0⟩ ∧
  t.bs = ⟨t.bs.island, .none, none, false, false, false, none, false, false, t.bs.survey, none, none,
    none, none, none, none, none⟩ ∧
  t.mode = ⟨.auto, .directive, .auto, none, none, none, false, 0, mntHigh, mntHigh⟩

/-! ## Tables -/

/-- A role byte and an index byte name a unit, or none with role NONE (R170). -/
abbrev NamesUnit (role index : Byte) (u : Option UnitRef) : Prop :=
  (role = 0 ∧ u = none) ∨
  (role = 1 ∧ ∃ g : Fin 8, index.toNat = g.val ∧ u = some (.genset g)) ∨
  (role = 2 ∧ ∃ b : Fin 16, index.toNat = b.val ∧ u = some (.pv b)) ∨
  (role = 3 ∧ ∃ f : Fin 32, index.toNat = f.val ∧ u = some (.feeder f)) ∨
  (role = 4 ∧ index = 0 ∧ u = some .busmeter)

/-- A byte names a feeder, or FF hex none (R170). -/
abbrev NamesFeeder (x : Byte) (f : Option (Fin 32)) : Prop :=
  (x = 0xFF ∧ f = none) ∨ ∃ k : Fin 32, x.toNat = k.val ∧ f = some k

/-- The four places of a step. -/
def StepCfg.places (x : StepCfg) : Vector (Option (Fin 32)) 4 :=
  #v[x.place0, x.place1, x.place2, x.place3]

/-- Commit check `k` of R174 fails at index `i`, against the part's own address where it has one. -/
def Bank.FailsAt (b : Bank) (own : Option Addr) (k i : Nat) : Prop :=
  match k with
  | 1 => ∃ a : Addr, a.val = i ∧ b.station[a] ≠ none ∧ (i = 63 ∨ own = some a)
  | 2 => ∃ a c : Addr, a.val = i ∧ c < a ∧ b.station[a] ≠ none ∧ b.station[c] = b.station[a]
  | 3 => ∃ g : Fin 8, g.val = i ∧ (b.genset[g]).configured = true ∧
      ∀ a : Addr, b.station[a] ≠ some (.genset g)
  | 4 => ∃ p : Fin 16, p.val = i ∧ (b.pv[p]).configured = true ∧
      ∀ a : Addr, b.station[a] ≠ some (.pv p)
  | 5 => ∃ f : Fin 32, f.val = i ∧ (b.feeder[f]).configured = true ∧
      ∀ a : Addr, b.station[a] ≠ some (.feeder f)
  | 6 => ∃ p q : Fin 32, q.val = i ∧ p < q ∧ b.shedOrder[p] = b.shedOrder[q] ∧
      ∀ m : Fin 32, m ≤ q → b.shedOrder[m] ≠ none
  | 7 => ∃ m n : Fin 16, n.val = i ∧ ∃ p q : Fin 4, (m < n ∨ (m = n ∧ p < q)) ∧
      (b.steps[n]).places[q] ≠ none ∧ (b.steps[m]).places[p] = (b.steps[n]).places[q]
  | 8 => ∃ m n : Fin 6, n.val = i ∧ m < n ∧ (b.stages[m]).enabled = true ∧
      (b.stages[n]).enabled = true ∧ (b.stages[n]).threshold ≤ (b.stages[m]).threshold
  | 9 => ∃ g : Fin 8, g.val = i ∧ (b.genset[g]).configured = true ∧
      (b.genset[g]).rating ≤ (b.genset[g]).minLoad
  | 10 => ∃ h g : Fin 8, g.val = i ∧ h < g ∧ (b.genset[h]).configured = true ∧
      (b.genset[g]).configured = true ∧ (b.genset[h]).startRank = (b.genset[g]).startRank
  | 11 => ∃ q p : Fin 16, p.val = i ∧ q < p ∧ (b.pv[q]).configured = true ∧
      (b.pv[p]).configured = true ∧ (b.pv[q]).reconnect = (b.pv[p]).reconnect
  | 12 => i = 0 ∧ b.params[31] ≠ 0 ∧
      ∀ g : Fin 8, (b.genset[g]).configured = true → (b.genset[g]).eligible = false
  | 13 => ∃ a : Addr, own = some a ∧
      ((i = 1 ∧ a.val = b.params[6] / 256 % 64) ∨ (i = 2 ∧ a.val = b.params[6] % 256 % 64))
  | _ => False

end Sys2Proof.Machine
end

