-- ==== Sys2Proof/Certificates/Slice0/Obligations.lean ====
section
/-! DEFINITION. The statements for the provers, in the order of the manual's chapters. -/

open Sys2Proof Sys2Proof.Machine

/-! ## The block and its queue -/

/-- A step takes the command at the front of the queue and runs it on the state with the queue's rest. On
an empty queue it lets one millisecond of the clock pass and changes nothing else: the model's choice, log
entry 4. -/
def Obligations.StepRunsFrontCommand : Prop :=
  (∀ (s : State) (c : Instr) (rest : List Instr),
    s.pending = c :: rest → step s = exec c { s with pending := rest }) ∧
  ∀ s : State, s.pending = [] → step s = .next { s with clock := s.clock + 1 }

/-- What no command does: touch the queue, turn the clock back, or, but for the end of a train of 5 pulses,
enter COMMISSIONING (R158, R161). -/
def Obligations.CommandsKeepTheQueue : Prop :=
  ∀ (c : Instr) (s t : State), exec c s = .next t →
    t.pending = s.pending ∧ s.clock ≤ t.clock ∧
    (s.mode.mode ≠ .commissioning → t.mode.mode = .commissioning →
      c = .trainTimerExpiry ∧ s.mode.trainCount = 5)

/-- The values of every block after power-up or pin reset (R23, R43, R64, R79, R109, R133, R156, R166,
R189), but for the bank, the store, the island state and its survey timer, which come from the store. The
notice slot is filled under the sequence number 0 and held on both ports (log entry 6); how the last
insertion ended is kept where none is cut (log entry 16); the class with which a standing order is sent
again is ROUTINE (log entry 17); the model's count of readings is kept (log entry 20). -/
def Obligations.PowerUpClearsTheBlocks : Prop :=
  ∀ (s : State) (strap : Addr) (mntHigh : Bool), ∃ t,
    exec (.powerUpOrPinReset strap mntHigh) s = .next t ∧
    t.clock = s.clock ∧ t.pending = s.pending ∧ t.loop.strap = strap ∧
    (∀ p, (t.port p).kept = ⟨.down, 0, none, 0, false, false, false, [], 0⟩ ∧
      (t.port p).tx = .idle ∧ (t.port p).lastEnd =
        (match (s.port p).tx with
         | .inserting _ _ _ => .cut
         | .idle | .forwarding => (s.port p).lastEnd)) ∧
    (∀ i : Fin 63, t.loop.dup[i].valid = false ∧ t.loop.dup[i].lost = none) ∧
    (∀ a, t.slot a = none) ∧ t.loop.ageCounter = 0 ∧ t.loop.answers = [] ∧
    t.loop.notice = some ⟨t.act.super1, t.act.hopCount, 0, t.sum.flags, t.bs.island, .auto,
      ⟨true, true⟩⟩ ∧ t.loop.seqCounter = 1 ∧
    t.JobsReset s.clock mntHigh ∧
    t.dir = ⟨0, false, s.dir.reading⟩ ∧ t.sum.seen = 0

/-- What the store gives at power-up: the bank of a whole image that agrees with its check word and
passes the commit checks against the address just strapped, and otherwise two empty banks and
STORE_INVALID (R178, R180, R156; log entry 5 says what "left VALID" is). -/
def Obligations.PowerUpLoadsTheStore : Prop :=
  ∀ (s : State) (strap : Addr) (mntHigh : Bool) (own : Option Addr),
    own = (if strap.val = 63 then none else some strap) →
    (∀ b, s.store.whole = true → s.store.check = crc16 s.store.image →
      Bank.ofImage s.store.image = some b → b.commitCheck own = none →
      ∃ t, exec (.powerUpOrPinReset strap mntHigh) s = .next t ∧
        t.bank = ⟨b, b, true, false, .none⟩ ∧ t.store = { s.store with cond := .valid } ∧
        t.bs.island = .survey ∧ t.bs.survey = some (s.clock + b.surveyTime) ∧
        t.sum.flags = 0x0001#16) ∧
    ((s.store.whole = false ∨ s.store.check ≠ crc16 s.store.image ∨
        Bank.ofImage s.store.image = none ∨
        ∃ b, Bank.ofImage s.store.image = some b ∧ b.commitCheck own ≠ none) →
      ∃ t, exec (.powerUpOrPinReset strap mntHigh) s = .next t ∧
        t.bank = ⟨Bank.empty, Bank.empty, false, false, .none⟩ ∧
        t.store = { s.store with cond := .invalid } ∧
        t.bs.island = .unconfigured ∧ t.bs.survey = none ∧ t.sum.flags = 0x4001#16)

/-! ## The loop -/

/-- R3 with the order of R2: an aborted frame changes nothing; a bad frame counts once, under the first
test that it fails, and does nothing else. In DOWN there is no error window to count in. A frame of fewer
than 6 bytes is a framing error (log entry 18). -/
def Obligations.ReceiveErrorsCountOnce : Prop :=
  ∀ (s : State) (p : Port) (rx : RxFrame) (n : Nat), n = (at8 rx.bytes 5).toNat →
    (rx.aborted = true → exec (.frameReceive p rx) s = .next s) ∧
    ∀ k : RxError, rx.aborted = false →
      ((48 < n ∧ k = .length) ∨
       (n ≤ 48 ∧ k = .framing ∧
        (rx.opening = false ∨ rx.closing = false ∨ rx.bytes.length ≠ 8 + n ∨
         (at8 rx.bytes 1).toNat % 64 = 63)) ∨
       (n ≤ 48 ∧ k = .check ∧ rx.opening = true ∧ rx.closing = true ∧
        rx.bytes.length = 8 + n ∧ (at8 rx.bytes 1).toNat % 64 ≠ 63 ∧
        (crc16 (rx.bytes.take (6 + n))).toNat ≠ at16 rx.bytes (6 + n))) →
      exec (.frameReceive p rx) s = .next (s.modPort p fun x =>
        if x.cond = .down then { x with goodCount := 0 }
        else { x with
          goodCount := 0, errTotal := min 255 (x.errTotal + 1)
          errLength := x.errLength || k == .length
          errFraming := x.errFraming || k == .framing
          errCheck := x.errCheck || k == .check })

/-- R8, R9, R10 and the abort of R18. A good frame is handled by the first line of the table of R8 that fits
it, after the port has counted it (log entry 19); one that is forwarded and offered is forwarded first, which
is the model's choice (log entry 44); a part without an address removes and consumes nothing
(R23). A frame that is forwarded leaves by the other port with its hop count lowered by one; a full buffer
drops it and counts it; a buffer that it fills cuts an insertion; nothing but the other port changes. A
forwarded frame that has been sent leaves the buffer, and the transmitter starts the next. 11.1, R190, R1:
the fields of a good frame are the received bytes 0 to 4 and 6 to 5 + n; the bytes of a frame as it is sent
are those fields, the payload length, the payload and the check over them, most significant byte first, so
that every frame whose source is not 63 and whose payload is not above 48 bytes is received as it was sent.
The check is stated bit by bit: the register starts at all ones, each byte enters most significant bit
first. -/
def Obligations.ForwardingLowersTheHop : Prop :=
  (∀ (s u : State) (p : Port) (rx : RxFrame) (f : Frame),
    rxJudge rx = .good f → u = s.countGood p →
    (s.ownAddr = some (lowSix f.src) → exec (.frameReceive p rx) s = .next u) ∧
    (s.ownAddr ≠ some (lowSix f.src) → s.ownAddr = some (lowSix f.dst) →
      exec (.frameReceive p rx) s = .next (u.offer f)) ∧
    (s.ownAddr ≠ some (lowSix f.src) → s.ownAddr ≠ some (lowSix f.dst) →
      (lowSix f.dst).val = 63 ∨ isReport f.kind = true →
      exec (.frameReceive p rx) s = .next ((u.forward p f).offer f)) ∧
    (s.ownAddr ≠ some (lowSix f.src) → s.ownAddr ≠ some (lowSix f.dst) →
      (lowSix f.dst).val ≠ 63 → isReport f.kind = false →
      exec (.frameReceive p rx) s = .next (u.forward p f))) ∧
  (∀ (u : State) (p : Port) (f : Frame) (x : PortState), x = u.port p.other →
    (f.hop.toNat % 64 ≤ 1 → u.forward p f = u) ∧
    (1 < f.hop.toNat % 64 → 2 ≤ x.buffer.length →
      u.forward p f = u.modPort p.other fun _ =>
        { x with overflow := min 65535 (x.overflow + 1) }) ∧
    (1 < f.hop.toNat % 64 → x.buffer.length < 2 →
      ∃ y : PortState, (u.forward p f = u.modPort p.other fun _ => y) ∧
        y.kept = { x.kept with buffer := x.buffer ++ [{ f with hop := f.hop - 1 }] } ∧
        match x.tx with
        | .idle | .forwarding => y.tx = .forwarding ∧ y.lastEnd = x.lastEnd
        | .inserting r g stale =>
          if x.buffer.length = 1 then y.tx = .forwarding ∧ y.lastEnd = .aborted
          else y.tx = .inserting r g stale ∧ y.lastEnd = x.lastEnd)) ∧
  (∀ (s : State) (p : Port), (s.port p).tx = .forwarding →
    exec (.forwardTransmitDone p) s = .next (s.modPort p fun x =>
      { x with buffer := x.buffer.tail
               tx := if x.buffer.tail = [] then .idle else .forwarding })) ∧
  (∀ (rx : RxFrame) (n : Nat) (b : Nat → Byte), (∀ k, b k = rx.bytes.getD k 0) → n = (b 5).toNat →
    rx.aborted = false → rx.opening = true → rx.closing = true → n ≤ 48 → rx.bytes.length = 8 + n →
    (b 1).toNat % 64 ≠ 63 →
    (crc16 (rx.bytes.take (6 + n))).toNat = (b (6 + n)).toNat * 256 + (b (7 + n)).toNat →
    ∃ f : Frame, rxJudge rx = .good f ∧ f.dst = b 0 ∧ f.src = b 1 ∧ f.hop = b 2 ∧ f.kind = b 3 ∧
      f.seq = b 4 ∧ f.payload.length = n ∧ ∀ k, k < n → f.payload[k]? = some (b (6 + k))) ∧
  (∀ (f : Frame) (body : List Byte) (check : BitVec 16),
    body = [f.dst, f.src, f.hop, f.kind, f.seq, BitVec.ofNat 8 f.payload.length] ++ f.payload →
    check = crc16 body →
    f.bytes = body ++ [check.extractLsb' 8 8, check.extractLsb' 0 8] ∧
    (f.src.toNat % 64 ≠ 63 → f.payload.length ≤ 48 →
      rxJudge ⟨false, true, true, f.bytes⟩ = .good f)) ∧
  (∀ b : Byte, (lowSix b).val = b.toNat % 64) ∧
  ∀ bytes : List Byte, crc16 bytes =
    (bytes.flatMap fun b => (List.range 8).map b.getMsbD).foldl
      (fun (c : BitVec 16) (d : Bool) => if c.msb = d then c <<< 1 else (c <<< 1) ^^^ 0x1021#16) 0xFFFF#16

/-- R5, R6, R7, R15. A good frame counts in DOWN alone, and the count that reaches the qualification count
brings the port to UP: an entry that is held, which bears both marks while the other port is DOWN (log
entry 23), keeps its mark on this port alone. The error window that closes judges the port, and the next
window begins at once. -/
def Obligations.GoodFramesBringThePortUp : Prop :=
  (∀ (s : State) (p : Port),
    (∀ rx f, rxJudge rx = .good f → s.ownAddr = some (lowSix f.src) →
      exec (.frameReceive p rx) s = .next (s.countGood p)) ∧
    ((s.port p).cond ≠ .down → s.countGood p = s) ∧
    ((s.port p).cond = .down → (s.port p).goodCount + 1 < s.act.qualCount →
      s.countGood p = s.modPort p fun x => { x with goodCount := x.goodCount + 1 }) ∧
    ∀ move : Marks → Marks,
      move = (fun m => if (s.port p.other).cond = .down ∧ m = ⟨true, true⟩ then Marks.only p else m) →
      (s.port p).cond = .down → s.act.qualCount ≤ (s.port p).goodCount + 1 →
      ∃ u : State, s.countGood p = u.raise .portChange ∧ { u with loop := s.loop } = s ∧
        (u.port p).kept = { (s.port p).kept with
          cond := .up, goodCount := 0, window := some (s.clock + s.act.errorWindow)
          errTotal := 0, errLength := false, errFraming := false, errCheck := false } ∧
        (u.port p).tx = (s.port p).tx ∧ u.port p.other = s.port p.other ∧
        (∀ a, u.slot a = (s.slot a).map fun o => { o with marks := move o.marks }) ∧
        (u.loop.answers = s.loop.answers.map fun x =>
          { x with segs := x.segs.map fun g => { g with marks := move g.marks } }) ∧
        (u.loop.notice = s.loop.notice.map fun n => { n with marks := move n.marks }) ∧
        u.loop.dup = s.loop.dup ∧ u.loop.seqCounter = s.loop.seqCounter) ∧
  ∀ (s : State) (p : Port) (d : Nat) (x : PortState) (c : PortCond),
    x = s.port p → x.cond ≠ .down → x.window = some d →
    c = (if s.act.errorLimit ≤ x.errTotal ∨
            2 ≤ x.errLength.toNat + x.errFraming.toNat + x.errCheck.toNat then .degraded else .up) →
    ∃ t, exec (.errorWindowExpiry p) s = .next t ∧
      (t.port p).kept = { x.kept with
        cond := c, window := some (max s.clock d + s.act.errorWindow)
        errTotal := 0, errLength := false, errFraming := false, errCheck := false } ∧
      (t.port p.other).kept = (s.port p.other).kept ∧ t.loop.orders = s.loop.orders ∧
      (x.cond ≠ c → t.sum.flags = s.sum.flags ||| Flag.portChange.word) ∧
      (x.cond = c → t.sum = s.sum ∧ t.loop.notice = s.loop.notice)

/-- R4, R7, R15: loss of signal takes a port to DOWN, with its window stopped and the marks of every
outbound entry moved; what it forwards and what it transmits is not disturbed. In DOWN it sets the count of
good frames to 0. -/
def Obligations.LossOfSignalTakesThePortDown : Prop :=
  ∀ (s : State) (p : Port) (move : Marks → Marks),
    move = (fun m =>
      if m.on p = true ∧ m.on p.other = false then
        if (s.port p.other).cond = .down then ⟨true, true⟩ else Marks.only p.other
      else m.clear p) →
    ((s.port p).cond = .down →
      exec (.lossOfSignal p) s = .next (s.modPort p fun x => { x with goodCount := 0 })) ∧
    ((s.port p).cond ≠ .down →
      ∃ t u : State, exec (.lossOfSignal p) s = .next t ∧ t = u.raise .portChange ∧
        { u with loop := s.loop } = s ∧
        (u.loop.notice = s.loop.notice.map fun n => { n with marks := move n.marks }) ∧
        u.loop.dup = s.loop.dup ∧ u.loop.seqCounter = s.loop.seqCounter ∧
        (t.port p).kept = { (s.port p).kept with
          cond := .down, goodCount := 0, window := none
          errTotal := 0, errLength := false, errFraming := false, errCheck := false } ∧
        (t.port p.other).kept = (s.port p.other).kept ∧
        ((s.port p).tx = .forwarding → (t.port p).tx = .forwarding) ∧
        (∀ r f stale, (s.port p).tx = .inserting r f stale →
          ∃ stale', (t.port p).tx = .inserting r f stale') ∧
        t.sum.flags = s.sum.flags ||| Flag.portChange.word ∧
        (∀ a, t.slot a = (s.slot a).map fun o => { o with marks := move o.marks }) ∧
        t.loop.answers = s.loop.answers.map fun x =>
          { x with segs := x.segs.map fun g => { g with marks := move g.marks } })

/-- R19, R20, R21, R14, R15: an order placed at a station fills its empty slot with a new age, or replaces
the content of a pending one, which keeps its age and the higher class; either way under the next sequence
number, pending on each port not DOWN, or on both where both are. An insertion of the slot in progress goes
on and will change nothing. An emptied slot loses its content, whatever its marks. A unit is served by the
lowest station that maps it; a unit without one has no slot. -/
def Obligations.OrdersFillTheirSlots : Prop :=
  ∀ (s : State) (a : Addr) (code : OrderCode) (tag : Byte) (cap : Nat) (cls : OrderClass) (fresh : Marks)
    (txAfter : Tx → Tx),
    fresh = (if s.loop.portE.cond = .down ∧ s.loop.portW.cond = .down then ⟨true, true⟩
             else ⟨decide (s.loop.portE.cond ≠ .down), decide (s.loop.portW.cond ≠ .down)⟩) →
    txAfter = (fun x => match x with
      | .inserting (.order b) f stale => .inserting (.order b) f (stale || b == a)
      | .inserting r f stale => .inserting r f stale
      | .idle => .idle
      | .forwarding => .forwarding) →
    (∀ t, t = s.place a code tag cap cls →
      (s.slot a = none →
        t.slot a = some ⟨cls, code, tag, cap, s.act.hopCount, s.loop.seqCounter, s.loop.ageCounter,
          fresh⟩ ∧ t.loop.ageCounter = s.loop.ageCounter + 1) ∧
      (∀ o, s.slot a = some o →
        t.slot a = some ⟨if o.cls = .urgent then .urgent else cls, code, tag, cap, s.act.hopCount,
          s.loop.seqCounter, o.age, fresh⟩ ∧ t.loop.ageCounter = s.loop.ageCounter) ∧
      t.loop.seqCounter = s.loop.seqCounter + 1 ∧ (∀ b, b ≠ a → t.slot b = s.slot b) ∧
      t.loop.portE = { s.loop.portE with tx := txAfter s.loop.portE.tx } ∧
      t.loop.portW = { s.loop.portW with tx := txAfter s.loop.portW.tx } ∧
      { t with loop := { s.loop with
          portE := t.loop.portE, portW := t.loop.portW, orders := t.loop.orders
          ageCounter := t.loop.ageCounter, seqCounter := t.loop.seqCounter } } = t ∧
      { t with loop := s.loop } = s) ∧
    (∀ t, t = s.emptySlot a →
      t.slot a = none ∧ (∀ b, b ≠ a → t.slot b = s.slot b) ∧
      { s with loop := { s.loop with
          portE := { s.loop.portE with tx := txAfter s.loop.portE.tx }
          portW := { s.loop.portW with tx := txAfter s.loop.portW.tx }
          orders := t.loop.orders } } = t) ∧
    s.newMarks = fresh ∧
    ∀ u,
      (s.act.stationOf u = some a →
        s.placeFor u code tag cap cls = s.place a code tag cap cls ∧ s.emptyFor u = s.emptySlot a) ∧
      (s.act.stationOf u = some a ↔
        s.act.station[a] = some u ∧ ∀ b, b < a → s.act.station[b] ≠ some u) ∧
      (s.act.stationOf u = none ↔ ∀ b : Addr, s.act.station[b] ≠ some u) ∧
      (s.act.stationOf u = none → s.placeFor u code tag cap cls = s ∧ s.emptyFor u = s)

/-- R16, R191: at an insertion opportunity the oldest URGENT slot marked on the port goes first, then
the lowest marked segment of the answer at the head, then the oldest ROUTINE slot, then the notice.
Without an opportunity nothing changes (log entry 3). The ages lie within half of the counter's circle, as
R19's "older" needs. R14, R190, 11.1 to 11.4: the frame that each entry sends, field by field: its
destination, the part's own address, the hop count, kind 30, 41 or 42 hex, the sequence number, the upper two
bits 0, and the payload, its codes as 11.2 lists them. -/
def Obligations.InsertionTakesUrgentFirst : Prop :=
  (∀ (s : State) (p : Port),
    (s.port p).cond = .down ∨ (s.port p).tx ≠ .idle ∨ (s.port p).buffer ≠ [] ∨
      s.ownAddr = none → exec (.insertionOpportunity p) s = .next s) ∧
  (∀ (s : State) (p : Port) (own : Addr) (base : BitVec 32),
    (s.port p).cond ≠ .down → (s.port p).tx = .idle → (s.port p).buffer = [] →
    s.ownAddr = some own → s.AgesFrom base →
    ∃ t, exec (.insertionOpportunity p) s = .next t ∧
      (s.modPort p fun x => { x with tx := (t.port p).tx }) = t ∧
      ((∃ a o, s.Waits p .urgent a o) →
        ∃ a o, s.Waits p .urgent a o ∧
          (∀ b q, s.Waits p .urgent b q → older q.age o.age = false) ∧
          (t.port p).tx = .inserting (.order a) (o.frame own a) false) ∧
      ((¬ ∃ a o, s.Waits p .urgent a o) → ∀ x i g, s.loop.answers.head? = some x →
        x.segs[i]? = some g → g.marks.on p = true →
        (∀ (j : Nat) (k : Segment), j < i → x.segs[j]? = some k → k.marks.on p = false) →
        (t.port p).tx = .inserting (.answer i) (x.frame own i g) false) ∧
      ((¬ ∃ a o, s.Waits p .urgent a o) →
        (∀ x, s.loop.answers.head? = some x → ∀ g ∈ x.segs, g.marks.on p = false) →
        ((∃ a o, s.Waits p .routine a o) →
          ∃ a o, s.Waits p .routine a o ∧
            (∀ b q, s.Waits p .routine b q → older q.age o.age = false) ∧
            (t.port p).tx = .inserting (.order a) (o.frame own a) false) ∧
        ((¬ ∃ a o, s.Waits p .routine a o) →
          match s.loop.notice with
          | none => t = s
          | some n =>
            if n.marks.on p = true then (t.port p).tx = .inserting .notice (n.frame own) false
            else t = s))) ∧
  (∀ a b : BitVec 32, older a b = true ↔ 1 ≤ (b - a).toNat ∧ (b - a).toNat ≤ 2147483647) ∧
  (∀ (own : Addr) (f : Frame) (two : Nat → List Byte) (header : Addr → Nat → Byte → Byte → Prop),
    (∀ n, two n = [BitVec.ofNat 8 (n / 256), BitVec.ofNat 8 n]) →
    (∀ dst hop kind seq, header dst hop kind seq ↔
      f.dst.toNat = dst.val ∧ f.src.toNat = own.val ∧ f.hop = BitVec.ofNat 8 hop ∧
      (hop ≤ 63 → f.hop.toNat = hop) ∧ f.kind = kind ∧ f.seq = seq) →
    (∀ o a, f = OrderSlot.frame o own a → header a o.hop 0x30 o.seq ∧
      f.payload = [o.code.code, o.tag] ++ two (if o.code = .cap then o.cap else 0) ∧
      f.orderCode = o.code.code) ∧
    (∀ x i g, f = Answer.frame x own i g → header x.dst g.hop 0x41 g.seq ∧
      f.payload = [x.code, x.token, x.result.code, if x.clamped = true then 1 else 0,
        BitVec.ofNat 8 i, BitVec.ofNat 8 x.segs.length] ++ g.data) ∧
    (∀ n, f = NoticeEntry.frame n own → header n.dst n.hop 0x42 n.seq ∧
      f.payload = two n.flags.toNat ++ [n.island.code, n.mode.code])) ∧
  (∀ x ∈ [(OrderCode.none, 0), (.start, 1), (.stop, 2), (.unload, 3), (.load, 4), (.closeSync, 5),
    (.closeDead, 6), (.open, 7), (.close, 8), (.cap, 9), (.disconnect, 10), (.permit, 11)],
    x.1.code = x.2) ∧
  (∀ x ∈ [(ResultCode.done, 0), (.pending, 1), (.busy, 2), (.guarded, 3), (.length, 4), (.range, 5),
    (.invalid, 6), (.state, 7), (.local, 8), (.notPermitted, 9), (.unknown, 10)], x.1.code = x.2) ∧
  (∀ x ∈ [(Island.unconfigured, 0), (.survey, 1), (.balancing, 2), (.blackout, 3), (.firstSource, 4),
    (.energizing, 5), (.restoring, 6), (.pvReturn, 7), (.abandoned, 8)], x.1.code = x.2) ∧
  ∀ x ∈ [(Mode.auto, 0), (.hold, 1), (.commissioning, 2)], x.1.code = x.2

/-- R17, R20: a completed insertion removes the port's mark, and an entry left without a mark is done; a
content replaced since the insertion began keeps its marks. R10: the port then sends the oldest frame that
waits in its buffer, or falls idle; the other port goes on. RESTART's effect has its own statement. R15,
R191: the marks of an entry are one for each port; an answer is done when no segment bears one. R186: the
answer of RESTART that is not done by this completion is an answer like any other, and RESTART has no effect
yet; but for the completion by which it is done, nothing outside the loop changes, and of the loop only the
ports and the entries. -/
def Obligations.CompletionRemovesTheMark : Prop :=
  (∀ m : Marks, m.on .e = m.e ∧ m.on .w = m.w ∧ m.clear .e = ⟨false, m.w⟩ ∧ m.clear .w = ⟨m.e, false⟩ ∧
    Marks.only .e = ⟨true, false⟩ ∧ Marks.only .w = ⟨false, true⟩ ∧
    (m.isDone = true ↔ m = ⟨false, false⟩)) ∧
  (∀ (x : Answer) (i : Nat) (p : Port),
    { x.clearMark i p with segs := x.segs } = x ∧ (x.clearMark i p).segs.length = x.segs.length ∧
    (∀ k g, x.segs[k]? = some g → (x.clearMark i p).segs[k]? =
      some (if k = i then { g with marks := g.marks.clear p } else g)) ∧
    (x.isDone = true ↔ ∀ g ∈ x.segs, g.marks = ⟨false, false⟩)) ∧
  ∀ (s : State) (p : Port) (r : EntryRef) (f : Frame) (stale : Bool),
    (s.port p).tx = .inserting r f stale →
    ∃ t, exec (.insertionComplete p) s = .next t ∧
      (stale = true → t.loop.orders = s.loop.orders ∧ t.loop.answers = s.loop.answers ∧
        t.loop.notice = s.loop.notice) ∧
      (stale = false → ∀ a o, r = .order a → s.slot a = some o →
        t.slot a = (if (o.marks.clear p).isDone = true then none
                    else some { o with marks := o.marks.clear p }) ∧
        (∀ b, b ≠ a → t.slot b = s.slot b) ∧ t.loop.answers = s.loop.answers ∧
        t.loop.notice = s.loop.notice) ∧
      (stale = false → ∀ i x y rest, r = .answer i → s.loop.answers = x :: rest →
        y = x.clearMark i p → ¬ (x.code = 14 ∧ x.result = .done ∧ y.isDone = true) →
        t.loop.answers = (if y.isDone = true then rest else y :: rest) ∧
        t.loop.orders = s.loop.orders ∧ t.loop.notice = s.loop.notice) ∧
      (¬ (stale = false ∧ ∃ i x rest, r = .answer i ∧ s.loop.answers = x :: rest ∧ x.code = 14 ∧
          x.result = .done ∧ (x.clearMark i p).isDone = true) →
        { s with loop := { s.loop with
            portE := t.loop.portE, portW := t.loop.portW, orders := t.loop.orders
            answers := t.loop.answers, notice := t.loop.notice } } = t) ∧
      (stale = false → ∀ n, r = .notice → s.loop.notice = some n →
        t.loop.notice = (if (n.marks.clear p).isDone = true then none
                         else some { n with marks := n.marks.clear p }) ∧
        t.loop.orders = s.loop.orders ∧ t.loop.answers = s.loop.answers) ∧
      (t.port p).lastEnd = .closed ∧ (∀ q, (t.port q).kept = (s.port q).kept) ∧
      (t.port p).tx = (if (s.port p).buffer = [] then .idle else .forwarding) ∧
      (t.port p.other).lastEnd = (s.port p.other).lastEnd ∧
      match (s.port p.other).tx with
      | .inserting q g z => ∃ y, (t.port p.other).tx = .inserting q g (z || y) ∧
          (stale = true → y = false)
      | .idle => (t.port p.other).tx = .idle
      | .forwarding => (t.port p.other).tx = .forwarding

/-- R186, R24, R180: RESTART is answered DONE and opens the discard window; it takes effect when its
answer is done, and then keeps the ports' frames, the banks and the store. The sequence counter is kept and
goes on by the one number that the RESTARTED notice takes (R14). Every block has its values after RESTART
(R43, R64, R79, R109, R133, R156, R166, R189). An insertion in progress on the other port goes on without
effect (log entry 24); the class of a standing order is ROUTINE (log entry 17), and the model's count of
readings is kept (log entry 20). -/
def Obligations.RestartWaitsForItsAnswer : Prop :=
  (∀ (s : State) (src : Addr) (token : Byte), s.CanTake → s.MayControl src →
    exec (.restart src token []) s =
      .next ({ s with dir := { s.dir with window := true } }.join src 14 token
        ⟨.done, false, []⟩)) ∧
  ∀ (s : State) (p : Port) (f : Frame) (i : Nat) (x : Answer) (rest : List Answer),
    (s.port p).tx = .inserting (.answer i) f false → s.loop.answers = x :: rest →
    x.code = 14 → x.result = .done → (x.clearMark i p).isDone = true →
    ∃ t, exec (.insertionComplete p) s = .next t ∧ t.clock = s.clock ∧ t.pending = s.pending ∧
      t.bank = { s.bank with pending := false, last := .none } ∧ t.store = s.store ∧
      t.loop.strap = s.loop.strap ∧ (∀ q, (t.port q).kept = (s.port q).kept) ∧
      (t.port p).lastEnd = .closed ∧
      (t.port p).tx = (if (s.port p).buffer = [] then .idle else .forwarding) ∧
      (t.port p.other).lastEnd = (s.port p.other).lastEnd ∧
      (t.port p.other).tx =
        (match (s.port p.other).tx with
         | .inserting r g _ => .inserting r g true
         | .idle => .idle
         | .forwarding => .forwarding) ∧
      (∀ k : Fin 63, t.loop.dup[k].valid = false ∧ t.loop.dup[k].lost = none) ∧
      (∀ a, t.slot a = none) ∧ t.loop.ageCounter = 0 ∧ t.loop.answers = [] ∧
      t.loop.notice = some ⟨s.act.super1, s.act.hopCount, s.loop.seqCounter, 0x0001#16, t.bs.island,
        .auto, if s.loop.portE.cond = .down ∧ s.loop.portW.cond = .down then ⟨true, true⟩
          else ⟨decide (s.loop.portE.cond ≠ .down), decide (s.loop.portW.cond ≠ .down)⟩⟩ ∧
      t.loop.seqCounter = s.loop.seqCounter + 1 ∧
      t.bs.island = (if s.bank.configured = true then .survey else .unconfigured) ∧
      t.bs.survey =
        (if s.bank.configured = true then some (s.clock + s.act.surveyTime) else none) ∧
      t.JobsReset s.clock s.mode.mntHigh ∧ t.dir = ⟨0, false, s.dir.reading⟩ ∧
      t.sum = ⟨0x0001#16, 0⟩

/-- R12, R11: a directive addressed to the part or to all stations, or a report to any address, is judged by
the entry of its source; what is not accepted changes nothing, what is accepted becomes the entry's last
number, starts the lost timer again, and a directive goes to the handler: a code of the fourteen is the
command of its row, any other is answered UNKNOWN, and a payload without code and token is discarded (R181).
A frame to all stations, and a report to another station, is forwarded (R8), before it is offered, which is
the model's choice (log entry 44), and also where the filter
does not accept it. An accepted report of the wrong role, or of the wrong form, is counted and touches no
record and no job (R25, R26). The role and the form are spelled out: the source is mapped to a configured
unit whose role is that of the report kind; the payload has the length of its kind, and for GEN an engine
code of 0 to 3 and a breaker code of 0 or 1, for FDR a breaker code of 0 or 1. So are the frames that the
filter takes up, the numbers that an entry accepts, the part's own address, and that a part without one
offers nothing (R23). -/
def Obligations.FilterJudgesByTheEntry : Prop :=
  (∀ (s w : State) (p : Port) (rx : RxFrame) (f : Frame) (i : Fin 63) (e : DupEntry),
    rxJudge rx = .good f → (s.port p).cond ≠ .down → (lowSix f.src).val = i.val →
    s.ownAddr ≠ some (lowSix f.src) →
    (s.ownAddr = some (lowSix f.dst) ∧ w = s) ∨
      (s.ownAddr ≠ none ∧ s.ownAddr ≠ some (lowSix f.dst) ∧
        ((lowSix f.dst).val = 63 ∨ isReport f.kind = true) ∧ w = s.forward p f) →
    e = s.loop.dup[i] →
    (e.valid = true → (f.seq - e.last).toNat = 0 ∨ 128 ≤ (f.seq - e.last).toNat →
      exec (.frameReceive p rx) s = .next w) ∧
    (isReport f.kind = false → f.kind ≠ kindDirective → exec (.frameReceive p rx) s = .next w) ∧
    (isReport f.kind = true → s.bs.island = .unconfigured →
      exec (.frameReceive p rx) s = .next w) ∧
    (f.kind = kindDirective →
      e.valid = false ∨ (1 ≤ (f.seq - e.last).toNat ∧ (f.seq - e.last).toNat ≤ 127) →
      ∃ u : State, u = { w with loop := { w.loop with dup := (s.loop.dup.set i.val
          ⟨true, f.seq, some (s.clock + s.act.lostTimeout)⟩ i.isLt) } } ∧
        exec (.frameReceive p rx) s = .next (u.takePayload (lowSix f.src) f.payload) ∧
        (f.payload.length < 2 → exec (.frameReceive p rx) s = .next u) ∧
        ∀ code token a, f.payload = code :: token :: a →
          (∀ row ∈ directiveRows, row.code = code →
            exec (.frameReceive p rx) s = exec (row.make (lowSix f.src) token a) u) ∧
          (code = 0 ∨ 14 < code.toNat →
            (s.dir.window = true → exec (.frameReceive p rx) s = .next u) ∧
            (s.dir.window = false → 4 ≤ s.loop.answers.length →
              exec (.frameReceive p rx) s = .next { u with
                dir := { u.dir with overrun := min 255 (u.dir.overrun + 1) } }) ∧
            (s.CanTake → exec (.frameReceive p rx) s =
              .next (u.join (lowSix f.src) code token ⟨.unknown, false, []⟩))))) ∧
  (∀ (s u : State) (p : Port) (rx : RxFrame) (f : Frame) (i : Fin 63) (c : Picture),
    s.Accepts p rx f i → isReport f.kind = true →
    u = (if s.ownAddr = some (lowSix f.dst) then s else s.forward p f) →
    (s.reportUnit (lowSix f.src) f.kind = none ∧
      c = { s.pic with roleMismatch := s.pic.roleMismatch + 1 }) ∨
    (∃ k, s.reportUnit (lowSix f.src) f.kind = some k ∧ reportFormOk k f.payload = false ∧
      c = { s.pic with formCount := s.pic.formCount + 1 }) →
    exec (.frameReceive p rx) s = .next { u with
      pic := c
      loop := { u.loop with dup := (s.loop.dup.set i.val
        ⟨true, f.seq, some (s.clock + s.act.lostTimeout)⟩ i.isLt) } }) ∧
  (∀ (s : State) (src : Addr) (kind : Byte) (u : UnitRef),
    (s.reportUnit src kind = some u ↔
      s.act.station[src] = some u ∧ s.act.configured u = true ∧
        match u with
        | .genset _ => kind = 0x21
        | .pv _ => kind = 0x22
        | .feeder _ => kind = 0x23
        | .busmeter => kind = 0x24) ∧
    (s.act.mapped src = some u ↔ s.act.station[src] = some u ∧ s.act.configured u = true) ∧
    (s.act.configured u = true ↔
      match u with
      | .genset g => (s.act.genset[g]).configured = true
      | .pv b => (s.act.pv[b]).configured = true
      | .feeder k => (s.act.feeder[k]).configured = true
      | .busmeter => ∃ a : Addr, s.act.station[a] = some .busmeter)) ∧
  (∀ (u : UnitRef) (payload : List Byte) (code : Nat → Nat), (∀ k, code k = (payload.getD k 0).toNat) →
    (reportFormOk u payload = true ↔
      match u with
      | .genset _ => payload.length = 7 ∧ code 0 ≤ 3 ∧ code 1 ≤ 1
      | .pv _ => payload.length = 9
      | .feeder _ => payload.length = 5 ∧ code 0 ≤ 1
      | .busmeter => payload.length = 4)) ∧
  ∀ (s : State) (f : Frame) (e : DupEntry) (x : PortState),
    (isReport f.kind = true ↔ f.kind = 0x21 ∨ f.kind = 0x22 ∨ f.kind = 0x23 ∨ f.kind = 0x24) ∧
    kindDirective = 0x40 ∧
    (s.uses f.kind = true ↔
      (isReport f.kind = true ∧ s.bs.island ≠ .unconfigured) ∨ f.kind = kindDirective) ∧
    (e.accepts f.seq = true ↔
      e.valid = false ∨ (1 ≤ (f.seq - e.last).toNat ∧ (f.seq - e.last).toNat ≤ 127)) ∧
    s.ownAddr = (if s.loop.strap.val = 63 then none else some s.loop.strap) ∧
    (s.ownAddr = none → s.offer f = s) ∧ (x.isDown = true ↔ x.cond = .down)

/-! ## The live picture -/

/-- R28, R33, R37 and the acceptance of R12: a GEN report that is tapped. The set sequencer then judges the
set and the echo, and the controller the survey (that order is log entry 8), the changes of the set being
handed on after each (log entry 9). -/
def Obligations.GenReportIsTapped : Prop :=
  ∀ (s u : State) (p : Port) (rx : RxFrame) (f : Frame) (i : Fin 63) (g : Fin 8) (raw : Int)
    (rating : Nat) (r : GenRec),
    s.Taps p rx f i (.genset g) → u = (if s.ownAddr = some (lowSix f.dst) then s else s.forward p f) →
    raw = at16i f.payload 3 → rating = (s.genCfg g).rating → r = s.genRec g →
    ∃ (v : GenValues) (w t : State), exec (.frameReceive p rx) s = .next t ∧
      v.engine.code = at8 f.payload 0 ∧ v.breaker.code = at8 f.payload 1 ∧
      (v.inAuto = true ↔ at8 f.payload 2 ≠ 0) ∧ v.rawOut = raw ∧
      (v.out : Int) = (if raw < 0 then 0 else if (rating : Int) < raw then (rating : Int) else raw) ∧
      v.echoCode = at8 f.payload 5 ∧ v.echoTag = at8 f.payload 6 ∧
      w = { u with
        pic := { s.pic with gen := (s.pic.gen.set g.val
          ⟨some v, if v.breaker = .closed then some v.out else r.lastLoaded, .fresh,
            some (s.clock + s.act.lateTimeout),
            if v.engine = .running then min 8 (r.nRunning + 1) else 0,
            if v.engine = .stopped then min 8 (r.nStopped + 1) else 0,
            if v.breaker = .closed then min 8 (r.nClosed + 1) else 0,
            if v.breaker = .open then min 8 (r.nOpen + 1) else 0⟩ g.isLt) }
        loop := { u.loop with dup := (s.loop.dup.set i.val
          ⟨true, f.seq, some (s.clock + s.act.lostTimeout)⟩ i.isLt) } } ∧
      t = ((((w.genTransition g v).drain.genEcho g v).drain).bsGenTap).drain ∧
      t.pic = w.pic ∧ t.loop.dup = w.loop.dup ∧
      t.bank = s.bank ∧ t.store = s.store ∧ t.mode = s.mode ∧ t.dir = s.dir ∧ t.clock = s.clock

/-- R29: a SOL report that is tapped; the clamped available is raised to the clamped output first, and
lowered to the rating after. The allocator then judges the connected flag (R65; not in SURVEY), on what
that leaves a latched echo (R67; log entry 13), and on what that leaves the echo (R75); the controller comes
last (log entry 8). -/
def Obligations.SolReportIsTapped : Prop :=
  ∀ (s u : State) (p : Port) (rx : RxFrame) (f : Frame) (i : Fin 63) (b : Fin 16)
    (raw rawAvail : Int) (rating : Nat) (free : PvState → PvJob → PvJob),
    s.Taps p rx f i (.pv b) → u = (if s.ownAddr = some (lowSix f.dst) then s else s.forward p f) →
    raw = at16i f.payload 1 → rawAvail = at16i f.payload 3 → rating = (s.pvCfg b).rating →
    free = (fun x j => { j with
      state := x, order := .none, cap := none, sendCount := 0, taken := false, unanswered := false }) →
    ∃ (v : PvValues) (w x y t : State), exec (.frameReceive p rx) s = .next t ∧
      w = { u with
        pic := { s.pic with pv := (s.pic.pv.set b.val
          ⟨some v, .fresh, some (s.clock + s.act.lateTimeout)⟩ b.isLt) }
        loop := { u.loop with dup := (s.loop.dup.set i.val
          ⟨true, f.seq, some (s.clock + s.act.lostTimeout)⟩ i.isLt) } } ∧
      (v.connected = true ↔ at8 f.payload 0 ≠ 0) ∧ v.rawOut = raw ∧ v.rawAvail = rawAvail ∧
      (v.out : Int) = (if raw < 0 then 0 else if (rating : Int) < raw then (rating : Int) else raw) ∧
      (v.avail : Int) = min (rating : Int) (max (v.out : Int) rawAvail) ∧
      v.echoCode = at8 f.payload 5 ∧ v.echoTag = at8 f.payload 6 ∧ v.echoCap = at16 f.payload 7 ∧
      x = (if s.bs.island = .survey then w
           else if (s.pv b).state = .off ∧ (s.pv b).order = .none ∧ v.connected = true then
             w.modPv b fun j => { j with state := .on, cap := none }
           else if (s.pv b).state = .waiting ∧ v.connected = true then
             (w.modPv b (free .on)).emptyFor (.pv b)
           else if (s.pv b).state = .on ∧ v.connected = false then
             (w.modPv b (free .off)).emptyFor (.pv b)
           else w) ∧
      y = (if s.bs.island = .balancing ∧ s.mode.mode ≠ .commissioning ∧ (x.pv b).state = .off ∧
              (x.pv b).order = .none ∧ v.echoCode = 10 then
             (x.modPv b fun j => { j with
               state := .waiting, order := .permit, cap := none, tag := j.tag + 1, sendCount := 1
               lastSend := some s.clock, taken := false, unanswered := false
               cls := .routine }).placeFor (.pv b) .permit ((x.pv b).tag + 1) 0 .routine
           else x) ∧
      t = ((y.pvEcho b v).bsSolTap).drain ∧
      t.pic = w.pic ∧ t.loop.dup = w.loop.dup ∧
      t.bank = s.bank ∧ t.store = s.store ∧ t.mode = s.mode ∧ t.dir = s.dir ∧ t.clock = s.clock

/-- R30: an FDR report that is tapped. The shedding unit then changes the feeder's state by the table of
R113 (not in SURVEY), and judges the echo on what that leaves (R112); the controller comes last (log entry 8).
The open-confirmed mark is kept by a feeder that leaves HELD_OPEN (log entry 34). -/
def Obligations.FdrReportIsTapped : Prop :=
  ∀ (s u : State) (p : Port) (rx : RxFrame) (f : Frame) (i : Fin 63) (k : Fin 32) (raw : Int)
    (free : FdrJob → FdrJob) (off : State → State),
    s.Taps p rx f i (.feeder k) → u = (if s.ownAddr = some (lowSix f.dst) then s else s.forward p f) →
    raw = at16i f.payload 1 →
    free = (fun j => { j with
      state := .closed, order := .none, sendCount := 0, taken := false, unanswered := false }) →
    off = (fun w => { w with shed := { w.shed with
      stack := w.shed.stack.filter fun e => e.feeder != k } }) →
    ∃ (v : FdrValues) (w x t : State), exec (.frameReceive p rx) s = .next t ∧
      w = { u with
        pic := { s.pic with fdr := (s.pic.fdr.set k.val
          ⟨some v, .fresh, some (s.clock + s.act.lateTimeout)⟩ k.isLt) }
        loop := { u.loop with dup := (s.loop.dup.set i.val
          ⟨true, f.seq, some (s.clock + s.act.lostTimeout)⟩ i.isLt) } } ∧
      v.breaker.code = at8 f.payload 0 ∧ v.rawLoad = raw ∧
      (v.load : Int) = (if raw < 0 then 0 else if 4000 < raw then 4000 else raw) ∧
      v.echoCode = at8 f.payload 3 ∧ v.echoTag = at8 f.payload 4 ∧
      x = (if s.bs.island = .survey then w
        else
          match v.breaker, (s.fdr k).state, (s.fdr k).order with
          | .open, .closed, _ | .open, .stuck, _ => w.modFdr k fun j => { j with state := .openOther }
          | .open, .shedPending, _ => w.modFdr k fun j => { j with state := .shed, confirm := none }
          | .open, .heldOpen, .open | .open, .heldOpen, .none =>
            w.modFdr k fun j => { j with openConfirmed := true }
          | .closed, .openOther, _ => w.modFdr k fun j => { j with state := .closed }
          | .closed, .shed, _ => (((off w).modFdr k free).emptyFor (.feeder k)).raise .feederStuck
          | .closed, .restoring, _ =>
            ((off w).modFdr k fun j => { free j with confirm := none }).emptyFor (.feeder k)
          | .closed, .heldOpen, .open =>
            if (s.fdr k).openConfirmed = true then
              ((w.modFdr k free).emptyFor (.feeder k)).raise .feederStuck
            else w
          | .closed, .heldOpen, .close =>
            (w.modFdr k fun j => { free j with confirm := none }).emptyFor (.feeder k)
          | .closed, .heldOpen, .none => (w.modFdr k free).emptyFor (.feeder k)
          | _, _, _ => w) ∧
      t = ((x.fdrEcho k v).bsFdrTap).drain ∧
      t.pic = w.pic ∧ t.loop.dup = w.loop.dup ∧
      t.bank = s.bank ∧ t.store = s.store ∧ t.mode = s.mode ∧ t.dir = s.dir ∧ t.clock = s.clock

/-- R31 and the bus meter's part of R37: a BUS report that is tapped. It acts on the shedding unit, then on
the set sequencer, then on the controller (log entry 8). -/
def Obligations.BusReportIsTapped : Prop :=
  ∀ (s u : State) (p : Port) (rx : RxFrame) (f : Frame) (i : Fin 63) (raw : Int) (volt : Nat)
    (r : BusRec),
    s.Taps p rx f i .busmeter → u = (if s.ownAddr = some (lowSix f.dst) then s else s.forward p f) →
    raw = at16i f.payload 0 → volt = at16 f.payload 2 → r = s.pic.bus →
    ∃ (v : BusValues) (w t : State), exec (.frameReceive p rx) s = .next t ∧
      v.rawDev = raw ∧ v.rawVolt = volt ∧
      v.dev = (if raw < -5000 then -5000 else if 5000 < raw then 5000 else raw) ∧
      v.volt = (if 1500 < volt then 1500 else volt) ∧
      w = { u with
        pic := { s.pic with bus :=
          ⟨some v, .fresh, some (s.clock + s.act.lateTimeout),
           if v.volt < s.act.deadThreshold then min 8 (r.nDead + 1) else 0,
           if s.act.liveThreshold ≤ v.volt then min 8 (r.nLive + 1) else 0,
           if s.act.liveThreshold ≤ v.volt ∧ -(s.act.settleBand : Int) ≤ v.dev ∧
              v.dev ≤ s.act.settleBand then min 8 (r.nSettled + 1) else 0⟩ }
        loop := { u.loop with dup := (s.loop.dup.set i.val
          ⟨true, f.seq, some (s.clock + s.act.lostTimeout)⟩ i.isLt) } } ∧
      t = (((w.shedBusTap v.dev).seqBusTap).bsBusTap).drain ∧
      t.pic = w.pic ∧ t.loop.dup = w.loop.dup ∧
      t.bank = s.bank ∧ t.store = s.store ∧ t.mode = s.mode ∧ t.dir = s.dir ∧ t.clock = s.clock

/-- R34, R117: the late timer of a FRESH record makes it LATE, its values and counters kept; for the bus
meter the recover and restore dwell timers stop. -/
def Obligations.LateTimerMakesTheRecordLate : Prop :=
  ∀ (s : State) (d : Nat),
    (∀ g, (s.genRec g).late = some d → (s.genRec g).fresh = .fresh →
      exec (.lateTimerExpiry (.genset g)) s = .next { s.at d with pic := { s.pic with
        gen := s.pic.gen.set g.val { s.genRec g with fresh := .late, late := none } g.isLt } }) ∧
    (∀ b, (s.pvRec b).late = some d → (s.pvRec b).fresh = .fresh →
      exec (.lateTimerExpiry (.pv b)) s = .next { s.at d with pic := { s.pic with
        pv := s.pic.pv.set b.val { s.pvRec b with fresh := .late, late := none } b.isLt } }) ∧
    (∀ f, (s.fdrRec f).late = some d → (s.fdrRec f).fresh = .fresh →
      exec (.lateTimerExpiry (.feeder f)) s = .next { s.at d with pic := { s.pic with
        fdr := s.pic.fdr.set f.val { s.fdrRec f with fresh := .late, late := none } f.isLt } }) ∧
    (s.pic.bus.late = some d → s.pic.bus.fresh = .fresh →
      exec (.lateTimerExpiry .busmeter) s = .next { s.at d with
        pic := { s.pic with bus := { s.pic.bus with fresh := .late, late := none } }
        shed := { s.shed with recover := none, dwell := none, dwellMet := false } })

/-- R13, R35: the lost timer of a source invalidates its entry; the record of a mapped unit that is not
LOST becomes LOST in the same event, its counters 0 and its values kept. What the jobs do at that: a set in
STANDBY is withdrawn (R81), one in ONLINE or UNLOADING becomes UNSEEN (R97); a feeder may have been the last
that the clear-down waits for (R141); without the bus meter the ARMED stages become IDLE (R117; the recover
timer stops as well, log entry 15), and a bus without a set on line is lost (R139). -/
def Obligations.LostTimerMakesTheRecordLost : Prop :=
  ∀ (s : State) (i : Fin 63) (src : Addr) (d : Nat) (w : State),
    src.val = i.val → s.loop.dup[i].lost = some d →
    w = { s.at d with loop := { s.loop with dup := (s.loop.dup.set i.val
      { s.loop.dup[i] with valid := false, lost := none } i.isLt) } } →
    (∀ u, s.freshness u =
      match u with
      | .genset g => (s.genRec g).fresh
      | .pv b => (s.pvRec b).fresh
      | .feeder f => (s.fdrRec f).fresh
      | .busmeter => s.pic.bus.fresh) ∧
    (s.act.mapped src = none → exec (.lostTimerExpiry src) s = .next w) ∧
    (∀ u, s.act.mapped src = some u → s.freshness u = .lost →
      exec (.lostTimerExpiry src) s = .next w) ∧
    (∀ u, s.act.mapped src = some u → s.freshness u ≠ .lost →
      ∃ t x : State, exec (.lostTimerExpiry src) s = .next t ∧ t.loop.dup = w.loop.dup ∧
        t.clock = w.clock ∧ t.bank = s.bank ∧ t.mode = s.mode ∧ t.store = s.store ∧
        x = { w with pic := t.pic } ∧
        match u with
        | .genset g =>
          (t.pic = { s.pic with gen := (s.pic.gen.set g.val
            ⟨(s.genRec g).vals, (s.genRec g).lastLoaded, .lost, none, 0, 0, 0, 0⟩ g.isLt) }) ∧
          (s.HandedOn →
            match (s.gen g).state with
            | .standby => (t.gen g).state = .notReady ∧ x.Stands t g .none ∧
                (s.bs.island ≠ .firstSource → x.EntersPlainly t g .notReady)
            | .online | .unloading =>
              t.gen g = { s.gen g with
                state := .unseen, before := some (s.gen g).state, sup := none, mark := false } ∧
              x.KeepsOrder t g ∧
              (s.bs.island ≠ .firstSource → s.bs.island ≠ .energizing →
                x.OnlySet t g ∧ t.sum = s.sum)
            | _ => t = x)
        | .pv b =>
          (t.pic = { s.pic with pv := (s.pic.pv.set b.val
            ⟨(s.pvRec b).vals, .lost, none⟩ b.isLt) }) ∧ (s.HandedOn → t = x)
        | .feeder f =>
          (t.pic = { s.pic with fdr := (s.pic.fdr.set f.val
            ⟨(s.fdrRec f).vals, .lost, none⟩ f.isLt) }) ∧
          (s.HandedOn →
            if s.bs.island = .blackout ∧ s.bs.phase = .clearing ∧ x.Settled then x.EndsClearDown t
            else t = x)
        | .busmeter =>
          t.pic = { s.pic with bus := ⟨s.pic.bus.vals, .lost, none, 0, 0, 0⟩ } ∧
          (s.HandedOn →
            if s.bs.island.live = true ∧ ∀ g, (s.gen g).state.onLine = false then x.LosesBus t
            else t = { x with shed := { s.shed with
              stages := s.shed.stages.map fun y => if y.cond = .armed then ⟨.idle, none⟩ else y
              recover := none, dwell := none, dwellMet := false } }))

/-! ## Balance dispatch and solar curtailment -/

/-- R44, R45: in an island state without computed rounds the expiry starts the timer again, marks the
figures invalid and clears what must run over consecutive rounds; the ramp base stays. Here no commit
takes the boundary. -/
def Obligations.UncomputedRoundClearsTheDwells : Prop :=
  ∀ (s : State) (d : Nat), s.bal.roundTimer = some d → s.bank.pending = false →
    s.bs.island.live = false →
    exec .roundTimerExpiry s = .next { s.at d with
      bal := ⟨some (max s.clock d + s.act.roundPeriod),
        { s.bal.fig with
          valid := false, startNeed := false, startPassed := false, stopRequest := none
          deficit := none },
        0, 0, 0, none, s.bal.rampBase⟩ }

/-- R44, R46 to R60: the memberships, the figures and the decisions of a computed round, from the state
that the commit boundary leaves. The cover is rounded up to whole kilowatts. An output or available power is
the clamped value of the last tapped report, 0 where absent; P_S and A as they stand at another event are
the same sums (R51, R52). -/
def Obligations.ComputedRoundFigures : Prop :=
  (∀ i : Island, i.live = true ↔ i = .balancing ∨ i = .restoring ∨ i = .pvReturn) ∧
  (∀ (s : State) (g : Fin 8) (b : Fin 16),
    s.genOut g = (match (s.genRec g).vals with | some v => v.out | none => 0) ∧
    s.pvOut b = (match (s.pvRec b).vals with | some v => v.out | none => 0) ∧
    s.pvAvail b = (match (s.pvRec b).vals with | some v => v.avail | none => 0) ∧
    (s.inScmd b = true ↔ (s.pvCfg b).configured = true ∧ (s.pv b).state = .on ∧
      (s.pvRec b).fresh ≠ .lost) ∧
    s.sumPs = (pvBlocks.map fun k => if s.inScmd k = true then s.pvOut k else 0).sum ∧
    s.sumA = (pvBlocks.map fun k => if s.inScmd k = true then s.pvAvail k else 0).sum) ∧
  (∀ (is : List (Fin 8)) (js : List (Fin 16)) (p : Fin 8 → Bool) (q : Fin 16 → Bool) (f : Fin 8 → Nat)
    (h : Fin 16 → Nat),
    sumOver is p f = (is.map fun i => if p i = true then f i else 0).sum ∧
    sumOver js q h = (js.map fun j => if q j = true then h j else 0).sum) ∧
  ∀ (s u : State) (d : Nat) (gOn gUnl gUnseen busy : Fin 8 → Bool) (sCmd sLost : Fin 16 → Bool),
    s.bal.roundTimer = some d → u = (s.at d).commitBoundary → u.bs.island.live = true →
    (∀ g, gOn g = true ↔ (u.genCfg g).configured = true ∧ (u.gen g).state = .online ∧
      (u.genRec g).fresh ≠ .lost) →
    (∀ g, gUnl g = true ↔ (u.genCfg g).configured = true ∧ (u.gen g).state = .unloading) →
    (∀ g, gUnseen g = true ↔ (u.genCfg g).configured = true ∧ (u.gen g).state = .unseen) →
    (∀ g, busy g = true ↔ (u.genCfg g).configured = true ∧
      ((u.gen g).state = .cranking ∨ (u.gen g).state = .resting ∨ (u.gen g).state = .warmup ∨
        (u.gen g).state = .hot ∨ (u.gen g).state = .syncing)) →
    (∀ b, sCmd b = true ↔ (u.pvCfg b).configured = true ∧ (u.pv b).state = .on ∧
      (u.pvRec b).fresh ≠ .lost) →
    (∀ b, sLost b = true ↔ (u.pvCfg b).configured = true ∧ (u.pv b).state = .on ∧
      (u.pvRec b).fresh = .lost) →
    ∃ t f, exec .roundTimerExpiry s = .next t ∧ t.bal.fig = f ∧
      t.bal.roundTimer = some (u.clock + u.act.roundPeriod) ∧ f.valid = true ∧
      f.pG = sumOver gensets (fun g => gOn g || gUnl g) u.genOut ∧
      f.pU = sumOver gensets gUnseen u.genOut ∧
      f.pS = sumOver pvBlocks sCmd u.pvOut ∧ f.pL = sumOver pvBlocks sLost u.pvOut ∧
      f.d = f.pG + f.pU + f.pS + f.pL ∧ f.e = f.pG + f.pS ∧
      f.a = sumOver pvBlocks sCmd u.pvAvail ∧
      f.cOn = sumOver gensets gOn (fun g => (u.genCfg g).rating) ∧
      f.mOn = sumOver gensets gOn (fun g => (u.genCfg g).minLoad) ∧
      f.xMl = max 0 (f.e - f.mOn) ∧ f.xStar = min f.a f.xMl ∧
      f.xCmd = min f.xStar (u.bal.rampBase + u.act.rampUp) ∧ t.bal.rampBase = f.xCmd ∧
      f.dd = f.e - f.xCmd ∧
      (u.act.cover : Int) * (f.xCmd + f.pL) ≤ 100 * (f.rReq - u.act.reserveBase) ∧
      100 * (f.rReq - u.act.reserveBase) < (u.act.cover : Int) * (f.xCmd + f.pL) + 100 ∧
      f.h = f.cOn - f.dd ∧ f.m = f.h - f.rReq ∧
      f.pPend = sumOver gensets busy (fun g => (u.genCfg g).rating) ∧
      (f.lowLoad = true ↔ f.e < f.mOn) ∧
      t.bal.startDwell =
        (if u.mode.mode = .commissioning then 0
         else if f.m < 0 then min (u.bal.startDwell + 1) u.act.startDwell else 0) ∧
      (f.startNeed = true ↔
        match u.mode.mode with
        | .auto => f.cOn < f.dd ∨ u.act.startDwell ≤ t.bal.startDwell
        | .hold => f.cOn < f.dd
        | .commissioning => False) ∧
      (f.startPassed = true ↔
        f.startNeed = true ∧ (f.m + f.pPend < 0 ∨ f.cOn + f.pPend < f.dd)) ∧
      (∀ test : Prop,
        (test ↔ u.bs.island = .balancing ∧ u.mode.mode = .auto ∧
          (∀ g, busy g = false ∧ gUnl g = false) ∧ 2 ≤ (gensets.filter gOn).length ∧
          f.startPassed = false) →
        match t.bal.stopCand with
        | none => (¬ test ∨ ∀ g, gOn g = true → (u.gen g).minRun ≠ .expired) ∧
            f.stop = none ∧ f.stopRequest = none ∧ t.bal.stopDwell = 0
        | some k => test ∧ gOn k = true ∧ (u.gen k).minRun = .expired ∧
            (∀ g, gOn g = true → (u.gen g).minRun = .expired →
              (u.genCfg g).startRank ≤ (u.genCfg k).startRank) ∧
            ∃ z, f.stop = some z ∧ z.c = f.cOn - (u.genCfg k).rating ∧
              z.x = min f.a (max 0 (f.e - (f.mOn - (u.genCfg k).minLoad))) ∧ z.d = f.e - z.x ∧
              (u.act.cover : Int) * (z.x + f.pL) ≤ 100 * (z.r - u.act.reserveBase) ∧
              100 * (z.r - u.act.reserveBase) < (u.act.cover : Int) * (z.x + f.pL) + 100 ∧
              z.m = z.c - z.d - z.r ∧
              t.bal.stopDwell =
                (if (u.act.stopMargin : Int) ≤ z.m then
                  min ((if u.bal.stopCand = some k then u.bal.stopDwell else 0) + 1) u.act.stopDwell
                 else 0) ∧
              f.stopRequest =
                (if (u.act.stopMargin : Int) ≤ z.m ∧ u.act.stopDwell ≤ t.bal.stopDwell then some k
                 else none)) ∧
      (if u.bs.island = .balancing ∧ u.mode.mode ≠ .commissioning ∧ f.cOn + f.pPend < f.dd then
        if u.act.deficitDwell ≤ u.bal.deficitDwell + 1 then
          f.deficit = some (f.dd - f.cOn - f.pPend) ∧ t.bal.deficitDwell = 0
        else f.deficit = none ∧ t.bal.deficitDwell = u.bal.deficitDwell + 1
      else f.deficit = none ∧ t.bal.deficitDwell = 0)

/-- R68 to R70, R50: the walk of the ranks 3 to 0 gives each its fraction; after a computed round the
allotments of all PV blocks sum to at most X_cmd, and X_cmd is at most A; a member of S_cmd takes its target
as its standing cap by the table of R70, and the CAP stands in its slot (R74). The ramp base is not
negative, which is an invariant of its own. -/
def Obligations.AllotmentsStayWithinTheTarget : Prop :=
  ∀ (s u : State) (d : Nat) (avail : Nat → Nat) (left : Nat → Nat) (frac : Nat → Nat),
    s.bal.roundTimer = some d → u = (s.at d).commitBoundary →
    u.bs.island.live = true → s.RampBaseSound →
    (∀ r, avail r = sumOver pvBlocks (fun b => u.inScmd b && min 3 (u.pvCfg b).rank == r) u.pvAvail) →
    left 3 = (u.roundFigures.a - u.roundFigures.xCmd).toNat →
    (∀ r, r < 3 → left r = left (r + 1) - avail (r + 1)) →
    (∀ r, r ≤ 3 → frac r =
      if avail r = 0 ∨ left r = 0 then 1000
      else if avail r ≤ left r then 0
      else 1000 * (avail r - left r) / avail r) →
    ∃ t, exec .roundTimerExpiry s = .next t ∧
      t.bal.fig.xCmd = u.roundFigures.xCmd ∧ t.bal.fig.a = u.roundFigures.a ∧
      t.cur.fractions = #v[frac 0, frac 1, frac 2, frac 3] ∧
      t.cur.sum = (pvBlocks.map fun b => ((t.pv b).allotment.getD 0 : Int)).sum ∧
      t.cur.sum ≤ t.bal.fig.xCmd ∧ t.bal.fig.xCmd ≤ t.bal.fig.a ∧
      t.cur.u = t.bal.fig.a - t.cur.sum ∧
      (∀ b, u.inScmd b = false → (t.pv b).allotment = none) ∧
      (∀ b, u.inScmd b = true → (t.pv b).allotment =
        some (u.pvAvail b * frac (min 3 (u.pvCfg b).rank) / 1000)) ∧
      (u.HandedOn → ∀ b al target, (t.pv b).allotment = al →
        target = (if frac (min 3 (u.pvCfg b).rank) < 1000 then al.getD 0 else (u.pvCfg b).rating) →
        t.pv b =
          if u.inScmd b = true ∧ u.mode.mode ≠ .commissioning ∧
              ∀ c ∈ (u.pv b).cap, target < c ∨
                (c < target ∧ (target = (u.pvCfg b).rating ∨ c + u.act.capDeadband ≤ target)) then
            { u.pv b with
              allotment := al, order := .cap, cap := some target, tag := (u.pv b).tag + 1
              sendCount := 1, lastSend := some u.clock, taken := false, unanswered := false
              cls := .routine }
          else { u.pv b with allotment := al }) ∧
      (u.HandedOn → ∀ b, if (t.pv b).tag = (u.pv b).tag then
          ∀ a, u.act.stationOf (.pv b) = some a → t.slot a = u.slot a
        else ∃ c, (t.pv b).cap = some c ∧ u.Places t (.pv b) .cap (t.pv b).tag c .routine)

/-- R61: the results of a computed round are handed to the allocator, whose part is stated above, to the set
sequencer (the round-complete event, the start request, the stop request) and to the shedding unit (the
deficit demand, less the in-flight total, R120), in that order (log entry 8). R93: the round-complete event
returns a set in UNLOADING to ONLINE where it stands ordered UNLOAD and m is below 0, with LOAD, and where
it stands ordered nothing. R92: a stop request takes a set from ONLINE alone. Start requests and demands
have their own statements. -/
def Obligations.RoundResultsActOnTheNeighbours : Prop :=
  (∀ (s u : State) (d : Nat), s.bal.roundTimer = some d → u = (s.at d).commitBoundary →
    u.bs.island.live = true →
    ∃ (f : Figures) (w x y z t v : State), exec .roundTimerExpiry s = .next t ∧ t = v.drain ∧
      t.bal.fig = f ∧ w.kept = u.kept ∧ w.bal = t.bal ∧ w.seq = u.seq ∧ w.shed = u.shed ∧
      w.bs = u.bs ∧ w.sum = u.sum ∧
      (∀ a, (∀ b, u.act.stationOf (.pv b) ≠ some a) → w.slot a = u.slot a) ∧
      x = w.roundComplete f.m ∧
      y = (if f.startPassed = true then x.startRequest none false else x) ∧
      (match f.stopRequest with
       | none => z = y
       | some k => z = y.stopSet k) ∧
      match f.deficit with
      | none => v = z
      | some q => ∀ fly : Nat, fly = ((z.shed.stack.filter fun e =>
            (z.fdr e.feeder).state == .shedPending).map (·.load)).sum →
          v = if 0 < q - fly then z.demand (q - fly) .deficit else z) ∧
  (∀ (s t : State) (m : Int) (cancels : Fin 8 → Prop), t = s.roundComplete m →
    (∀ g, cancels g ↔ (s.gen g).state = .unloading ∧ (s.gen g).order = .unload ∧ m < 0) →
    t.kept = s.kept ∧ t.bal = s.bal ∧ t.cur = s.cur ∧ t.shed = s.shed ∧ t.bs = s.bs ∧
    t.sum = s.sum ∧
    (∀ g, cancels g →
      t.gen g = { s.gen g with
        state := .online, before := none, sup := none, mark := false, order := .load
        tag := (s.gen g).tag + 1, taken := false, unanswered := false, cls := .routine
        sendCount := if s.mode.mode = .commissioning then 0 else 1
        lastSend := if s.mode.mode = .commissioning then none else some s.clock } ∧
      s.Stands t g .load) ∧
    (∀ g, (s.gen g).state = .unloading → (s.gen g).order = .none →
      t.gen g = { s.gen g with state := .online, before := none, sup := none, mark := false }) ∧
    (∀ g, ¬ cancels g → ¬ ((s.gen g).state = .unloading ∧ (s.gen g).order = .none) →
      t.gen g = s.gen g) ∧
    ∀ a, (∀ g, cancels g → s.act.stationOf (.genset g) ≠ some a) → t.slot a = s.slot a) ∧
  ∀ (s t : State) (g : Fin 8), t = s.stopSet g →
    ((s.gen g).state ≠ .online → t = s) ∧
    ((s.gen g).state = .online →
      s.Enters t g .unloading .unload (some (s.clock + (s.genCfg g).unloadTime * 1000)) ∧
      (t.gen g).minRun = (s.gen g).minRun ∧ (t.gen g).attempts = (s.gen g).attempts)

/-- The invariants of single blocks, each kept by every command from every state: the bounds of the
answer FIFO (R181) and of the forwarding buffers (R10); seen marks on set flags alone (R187, R188); the
ramp base not negative (R50 to R52); the mode as its source gives it (R157); nothing left to hand on
between two events (log entry 9). -/
def Obligations.BlockInvariantsAreKept : Prop :=
  ∀ (c : Instr) (s t : State), exec c s = .next t →
    (s.QueuesBounded → t.QueuesBounded) ∧ (s.SeenAreSet → t.SeenAreSet) ∧
    (s.RampBaseSound → t.RampBaseSound) ∧ (s.ModeFollowsSource → t.ModeFollowsSource) ∧
    (s.HandedOn → t.HandedOn)

/-! ## Diesel set sequencing -/

/-- R83: no command takes the number of sets that hold a start slot above the parallel starts. -/
def Obligations.StartsNeverExceedParallelStarts : Prop :=
  ∀ (c : Instr) (s t : State), exec c s = .next t → s.StartsBounded → t.StartsBounded

/-- R86, R62, R87: the ends of the rest and warm times. A start is still wanted by the start need of valid
figures, by a held request, or in FIRST_SOURCE by the choice of R143 while no set bears the mark; that the
figures stay valid in BLACKOUT until the next round is log entry 41. The change of the set is handed on to
the controller (log entry 9) after it has been made, so the state before the hand-over is stated first, and
for every island state; outside FIRST_SOURCE, where the set may be chosen again in the same event, the state
after it is stated too. -/
def Obligations.RestAndWarmTimesEnd : Prop :=
  ∀ (s w : State) (g : Fin 8) (d : Nat) (wanted : Bool), w = s.at d →
    (wanted = true ↔ (s.bal.fig.valid = true ∧ s.bal.fig.startNeed = true) ∨ s.bs.held = true ∨
      (s.bs.island = .firstSource ∧ (∀ k, (s.gen k).mark = false) ∧
        (s.genCfg g).configured = true ∧ (s.genCfg g).eligible = true)) →
    (s.genLost g = true ↔ (s.genRec g).fresh = .lost) ∧
    (s.SupRuns g .resting d → ∃ u : State, exec (.restTimerExpiry g) s = .next u.drain ∧
      if wanted = true then w.EntersCranking u g ((s.gen g).attempts + 1)
      else w.EntersPlainly u g .standby) ∧
    (s.SupRuns g .resting d → wanted = true →
      ∃ t, exec (.restTimerExpiry g) s = .next t ∧ t.kept = w.kept ∧
        (t.gen g).state = .cranking ∧ w.Stands t g .start ∧
        (t.gen g).attempts = (s.gen g).attempts + 1 ∧
        (t.gen g).sup = some (w.clock + (s.genCfg g).crankTime * 1000)) ∧
    (s.SupRuns g .resting d → s.bs.island ≠ .firstSource →
      ∃ t, exec (.restTimerExpiry g) s = .next t ∧
        if wanted = true then w.EntersCranking t g ((s.gen g).attempts + 1)
        else w.EntersPlainly t g .standby) ∧
    (s.SupRuns g .warmup d → ∃ u : State, exec (.warmTimerExpiry g) s = .next u.drain ∧
      w.EndsWarm u g) ∧
    (s.SupRuns g .warmup d → s.genLost g = false → s.bs.island = .firstSource →
      (s.gen g).mark = true →
      ∃ t, exec (.warmTimerExpiry g) s = .next t ∧ t.kept = w.kept ∧
        (t.gen g).state = .syncing ∧ w.Stands t g .closeDead ∧ (t.gen g).mark = true ∧
        (t.gen g).sup = some (w.clock + (s.genCfg g).syncTime * 1000)) ∧
    (s.SupRuns g .warmup d → s.bs.island ≠ .firstSource →
      ∃ t, exec (.warmTimerExpiry g) s = .next t ∧ w.EndsWarm t g)

/-- R84, R85, R89, R90, R95: the crank timer is a failed attempt and the sync timer a failed close, each
judged on the attempt count. R88, R99, R93: the ends of the hot, cool, stop and unload times. R102, R105:
the order that the set then stands, in record and slot. Entry to LOCKOUT cuts an insertion of a START for
the set, also one that its slot has lost (log entry 11). -/
def Obligations.SupervisionTimesEnd : Prop :=
  ∀ (s w : State) (g : Fin 8) (d : Nat), w = s.at d →
    (s.SupRuns g .cranking d → ∃ t, exec (.crankTimerExpiry g) s = .next t ∧
      t.kept = w.kept ∧ w.FailedAttempt t g ∧ (s.bs.island ≠ .firstSource → w.FailsAttempt t g)) ∧
    (s.SupRuns g .syncing d → ∃ t, exec (.syncTimerExpiry g) s = .next t ∧
      t.kept = w.kept ∧ w.FailedClose t g ∧ (s.bs.island ≠ .firstSource → w.FailsClose t g)) ∧
    (s.SupRuns g .hot d → ∃ t, exec (.hotTimerExpiry g) s = .next t ∧
      t.kept = w.kept ∧ w.CoolsDown t g ∧
      (s.bs.island ≠ .firstSource → w.OnlySet t g ∧ t.sum = s.sum)) ∧
    (s.SupRuns g .cooldown d → ∃ t, exec (.coolTimerExpiry g) s = .next t ∧
      t.kept = w.kept ∧ (t.gen g).state = .stopping ∧ w.Stands t g .stop ∧
      (t.gen g).sup = some (w.clock + (s.genCfg g).stopTime * 1000) ∧
      (s.bs.island ≠ .firstSource → w.OnlySet t g ∧ t.sum = s.sum)) ∧
    (s.SupRuns g .stopping d → ∃ t, exec (.stopTimerExpiry g) s = .next t ∧
      t.kept = w.kept ∧ w.Rests t g .notReady ∧
      (s.bs.island ≠ .firstSource → w.OnlySet t g ∧ t.sum = s.sum)) ∧
    (s.SupRuns g .unloading d → ∃ t, exec (.unloadTimerExpiry g) s = .next t ∧
      w.OnlySet t g ∧ t.sum = s.sum ∧ (t.gen g).state = .unloading ∧ (t.gen g).sup = none ∧
      (t.gen g).minRun = (s.gen g).minRun ∧
      if (s.gen g).order = .unload then w.Stands t g .open else w.KeepsOrder t g)

/-- R81, R84 to R90, R92 to R95, R97 to R99: the change of state that a tapped GEN report brings to its set.
Where a report fits several rows of a state's table, the first row is taken (log entry 12). Reports move the
sets in SURVEY too, but not out of NOT_READY (log entry 14). A warm, hot or cool time of 0 ends in the event
that starts it (R80), with the orders of each state passed. Entry to LOCKOUT cuts an insertion of a START
for the set, also one that its slot has lost (log entry 11). A report acts once, in the state that it finds,
also one that returns a set from UNSEEN to UNLOADING with its output at or below the unload threshold (the
model's choice, log entry 45). -/
def Obligations.GenReportsMoveTheSets : Prop :=
  ∀ (s t : State) (g : Fin 8) (v : GenValues), (s.genRec g).vals = some v → t = s.genTransition g v →
    match (s.gen g).state with
    | .notReady =>
      if s.bs.island ≠ .survey ∧ v.inAuto = true ∧ s.Qual (s.genRec g).nStopped ∧
          s.Qual (s.genRec g).nOpen then s.EntersPlainly t g .standby
      else t = s
    | .standby =>
      if v.inAuto = false ∨ v.engine ≠ .stopped ∨ v.breaker = .closed then
        s.EntersPlainly t g .notReady
      else t = s
    | .cranking =>
      if s.Qual (s.genRec g).nRunning then
        if (s.genCfg g).warmTime = 0 then
          ∃ u : State, s.Enters u g .warmup .none none ∧
            (u.gen g).attempts = (s.gen g).attempts ∧ (u.gen g).mark = (s.gen g).mark ∧
            u.EndsWarm t g
        else s.Enters t g .warmup .none (some (s.clock + (s.genCfg g).warmTime * 1000)) ∧
          (t.gen g).attempts = (s.gen g).attempts ∧ (t.gen g).mark = (s.gen g).mark
      else if v.engine = .fault then s.FailsAttempt t g
      else if v.inAuto = false then s.EntersPlainly t g .notReady
      else t = s
    | .resting =>
      if v.engine = .fault ∨ v.inAuto = false then s.EntersPlainly t g .notReady else t = s
    | .warmup | .hot =>
      if v.engine = .fault ∨ s.Qual (s.genRec g).nStopped then s.FailsAttempt t g
      else if v.inAuto = false then s.EntersPlainly t g .notReady
      else t = s
    | .syncing =>
      if s.Qual (s.genRec g).nClosed then
        s.Enters t g .online .none none ∧ (t.gen g).mark = (s.gen g).mark ∧
        (t.gen g).attempts = (if (s.gen g).mark = true then (s.gen g).attempts else 0) ∧
        (t.gen g).minRun = (if (s.genCfg g).minRun = 0 then .expired
          else .running (s.clock + (s.genCfg g).minRun * 1000))
      else if v.engine = .fault ∨ s.Qual (s.genRec g).nStopped then s.FailsClose t g
      else if v.inAuto = false then s.EntersPlainly t g .notReady
      else t = s
    | .online =>
      if (s.gen g).order = .open then
        if s.Qual (s.genRec g).nOpen then s.EntersCooldown t g else t = s
      else if v.breaker = .open then t = s.trip g v
      else t = s
    | .unloading =>
      if (s.gen g).order = .open then
        if s.Qual (s.genRec g).nOpen then s.EntersCooldown t g else t = s
      else if v.breaker = .open then t = s.trip g v
      else if (s.gen g).order = .unload ∧ v.out ≤ (s.genCfg g).unloadThreshold then
        s.Enters t g .unloading .open none ∧ (t.gen g).minRun = (s.gen g).minRun ∧
        (t.gen g).attempts = (s.gen g).attempts
      else t = s
    | .cooldown =>
      if s.Qual (s.genRec g).nStopped then
        s.EntersPlainly t g (if v.inAuto = true ∧ v.breaker = .open then .standby else .notReady)
      else if v.engine = .fault then s.EntersPlainly t g .notReady
      else if (s.gen g).sup = none ∧ s.Qual (s.genRec g).nOpen then
        if (s.genCfg g).coolTime = 0 then
          s.Enters t g .stopping .stop (some (s.clock + (s.genCfg g).stopTime * 1000))
        else s.EntersKeeping t g .cooldown (some (s.clock + (s.genCfg g).coolTime * 1000))
      else t = s
    | .stopping =>
      if s.Qual (s.genRec g).nStopped then
        s.EntersPlainly t g (if v.inAuto = true ∧ v.breaker = .open then .standby else .notReady)
      else if v.engine = .fault then s.EntersPlainly t g .notReady
      else t = s
    | .lockout =>
      if (s.gen g).order = .open ∧ s.Qual (s.genRec g).nOpen then
        s.Enters t g .lockout .stop (s.gen g).sup ∧ (t.gen g).attempts = (s.gen g).attempts
      else t = s
    | .unseen =>
      if v.breaker = .open then
        if v.engine = .running then s.EntersCooldown t g else s.EntersPlainly t g .notReady
      else if (s.gen g).before = some .unloading then
        s.EntersKeeping t g .unloading (some (s.clock + (s.genCfg g).unloadTime * 1000)) ∧
        (t.gen g).minRun = (s.gen g).minRun
      else s.EntersKeeping t g .online none ∧ (t.gen g).minRun = (s.gen g).minRun

/-- R94, R96, R76, R52, R120: the trip of an ONLINE or UNLOADING set. Where its last loaded output is above
the threshold of its state, the source loss comes first: every ON block is uncapped with an urgent CAP at
its rating, but in COMMISSIONING, and the ramp base becomes A; what the other sets on line and the credited
solar cannot take is demanded of the shedding unit, less its in-flight total. Then the set leaves its
state. -/
def Obligations.TripsOfLoadedSetsShed : Prop :=
  ∀ (s t : State) (g : Fin 8) (v : GenValues) (load : Nat) (q : Int),
    (s.gen g).state = .online ∨ (s.gen g).state = .unloading →
    load = (s.genRec g).lastLoaded.getD 0 →
    q = (load : Int)
      - ((gensets.filter fun k => s.inGon k && k != g).map fun k =>
          ((s.genCfg k).rating : Int) - s.genOut k).sum
      - (s.act.pvCredit : Int) * (if s.bal.fig.valid = true then s.cur.u else 0) / 100 →
    t = s.trip g v →
    ((∀ k, s.inGon k = true ↔ (s.genCfg k).configured = true ∧ (s.gen k).state = .online ∧
        (s.genRec k).fresh ≠ .lost) ∧
      s.inFlight = (s.shed.stack.map fun e =>
        if (s.fdr e.feeder).state = .shedPending then e.load else 0).sum ∧
      ((s.gen g).state = .online ∧ load ≤ s.act.tripThreshold →
        if v.engine = .running then s.EntersCooldown t g else s.EntersPlainly t g .notReady) ∧
      ((s.gen g).state = .unloading ∧ load ≤ (s.genCfg g).unloadThreshold →
        s.EntersCooldown t g) ∧
      (((s.gen g).state = .online ∧ s.act.tripThreshold < load) ∨
          ((s.gen g).state = .unloading ∧ (s.genCfg g).unloadThreshold < load) →
        ∃ u w : State,
          u.kept = s.kept ∧ u.bal = { s.bal with rampBase := s.sumA } ∧ u.seq = s.seq ∧
          u.shed = s.shed ∧ u.bs = s.bs ∧ u.sum = s.sum ∧
          { u.cur with jobs := s.cur.jobs } = s.cur ∧
          (∀ a, (∀ b, s.act.stationOf (.pv b) ≠ some a) → u.slot a = s.slot a) ∧
          (∀ b, if s.mode.mode ≠ .commissioning ∧ (s.pvCfg b).configured = true ∧
                (s.pv b).state = .on ∧
                ¬ ((s.pv b).order = .cap ∧ (s.pv b).cap = some (s.pvCfg b).rating) then
              u.pv b = { s.pv b with
                order := .cap, cap := some (s.pvCfg b).rating, tag := (s.pv b).tag + 1
                sendCount := 1, lastSend := some s.clock, taken := false, unanswered := false
                cls := .urgent } ∧
              s.Places u (.pv b) .cap ((s.pv b).tag + 1) (s.pvCfg b).rating .urgent
            else u.pv b = s.pv b ∧ ∀ a, s.act.stationOf (.pv b) = some a → u.slot a = s.slot a) ∧
          w = (if 0 < q then
              (if 0 < q - s.inFlight then u.demand (q - s.inFlight) .sourceLoss else u).raise
                .sourceLossShed
            else u) ∧
          if v.engine = .running then w.EntersCooldown t g else w.EntersPlainly t g .notReady))

/-- R103, R104, R105; R75; R112: the echo of a report against the standing order of its unit. A match takes
the order; otherwise an order neither taken nor unanswered, whose resend interval has passed, is placed
again under the same tag and class while its send count is below the limit, and is unanswered at the limit.
What the mode, or the shed order, forbids is not placed again (log entry 31). -/
def Obligations.EchoesTakeOrResend : Prop :=
  (∀ (s t : State) (g : Fin 8) (v : GenValues) (j : GenJob) (idle : Prop),
    j = s.gen g → t = s.genEcho g v →
    (idle ↔ j.taken = true ∨ j.unanswered = true ∨
      ∃ n, j.lastSend = some n ∧ s.clock < n + s.act.resendInterval) →
    (j.order = .none → t = s) ∧
    (j.order ≠ .none → v.echoCode = j.order.code → v.echoTag = j.tag →
      t = s.modGen g fun j => { j with taken := true, unanswered := false, sendCount := 0 }) ∧
    (j.order ≠ .none → ¬ (v.echoCode = j.order.code ∧ v.echoTag = j.tag) →
      (idle → t = s) ∧
      (¬ idle → j.sendCount < s.act.resendLimit →
        t = if s.mode.mode = .commissioning ∧ j.order ≠ .open then s
          else (s.modGen g fun j =>
            { j with sendCount := j.sendCount + 1, lastSend := some s.clock }).placeFor
              (.genset g) j.order j.tag 0 j.cls) ∧
      (¬ idle → s.act.resendLimit ≤ j.sendCount →
        ∃ u : State, u.gen g = { j with unanswered := true } ∧ s.OnlySet u g ∧
          (∀ a, u.slot a = s.slot a) ∧
          u.sum = s.sum.setFlag .orderUnanswered ∧
          match j.state with
          | .cranking | .warmup | .hot => u.FailsAttempt t g
          | .syncing => u.FailsClose t g
          | .online | .unloading => u.Enters t g j.state .none j.sup ∧
              (t.gen g).minRun = j.minRun ∧ (t.gen g).mark = j.mark
          | .resting | .cooldown | .stopping => u.EntersPlainly t g .notReady
          | .notReady | .standby | .lockout | .unseen => t = u))) ∧
  (∀ (s : State) (b : Fin 16) (v : PvValues) (j : PvJob) (same idle : Prop), j = s.pv b →
    (same ↔ v.echoCode = j.order.code ∧ v.echoTag = j.tag ∧
      (j.order = .cap → j.cap = some v.echoCap)) →
    (idle ↔ j.taken = true ∨ j.unanswered = true ∨
      ∃ n, j.lastSend = some n ∧ s.clock < n + s.act.resendInterval) →
    (j.order = .none → s.pvEcho b v = s) ∧
    (j.order ≠ .none → same →
      s.pvEcho b v = s.modPv b fun j =>
        { j with taken := true, unanswered := false, sendCount := 0 }) ∧
    (j.order ≠ .none → ¬ same → idle → s.pvEcho b v = s) ∧
    (j.order ≠ .none → ¬ same → ¬ idle → j.sendCount < s.act.resendLimit →
      s.pvEcho b v = if s.mode.mode = .commissioning then s
        else (s.modPv b fun j =>
          { j with sendCount := j.sendCount + 1, lastSend := some s.clock }).placeFor
            (.pv b) j.order j.tag (j.cap.getD 0) j.cls) ∧
    (j.order ≠ .none → ¬ same → ¬ idle → s.act.resendLimit ≤ j.sendCount →
      s.pvEcho b v = (s.modPv b fun j => { j with unanswered := true }).raise .orderUnanswered)) ∧
  ∀ (s : State) (f : Fin 32) (v : FdrValues) (j : FdrJob) (same idle : Prop), j = s.fdr f →
    (same ↔ v.echoCode = j.order.code ∧ v.echoTag = j.tag) →
    (idle ↔ j.taken = true ∨ j.unanswered = true ∨
      ∃ n, j.lastSend = some n ∧ s.clock < n + s.act.resendInterval) →
    (j.order = .none → s.fdrEcho f v = s) ∧
    (j.order ≠ .none → same →
      s.fdrEcho f v = s.modFdr f fun j =>
        { j with taken := true, unanswered := false, sendCount := 0 }) ∧
    (j.order ≠ .none → ¬ same → idle → s.fdrEcho f v = s) ∧
    (j.order ≠ .none → ¬ same → ¬ idle → j.sendCount < s.act.resendLimit →
      s.fdrEcho f v =
        if (j.order = .open ∧ j.state ≠ .heldOpen ∧ f ∉ s.act.shedList) ∨
            (j.order = .close ∧ s.mode.mode = .commissioning) then s
        else (s.modFdr f fun j =>
          { j with sendCount := j.sendCount + 1, lastSend := some s.clock }).placeFor
            (.feeder f) j.order j.tag 0 j.cls) ∧
    (j.order ≠ .none → ¬ same → ¬ idle → s.act.resendLimit ≤ j.sendCount →
      s.fdrEcho f v = (s.modFdr f fun j => { j with unanswered := true }).raise .orderUnanswered)

/-- R92, R119, R123, R124, R125, R150, R151: seven timers whose expiry changes one mark, one count or
one timer and nothing else; the recover expiry ends the UF event. -/
def Obligations.PlainTimersChangeNothingElse : Prop :=
  ∀ (s : State) (d : Nat),
    (∀ g, (s.gen g).minRun = .running d → exec (.minRunTimerExpiry g) s = .next { s.at d with
      seq := { s.seq with
        jobs := s.seq.jobs.set g.val { s.gen g with minRun := .expired } g.isLt } }) ∧
    (s.shed.recover = some d → exec .recoverTimerExpiry s = .next { s.at d with
      shed := { s.shed with
        stages := Vector.replicate 6 ⟨.idle, none⟩, recover := none, ufActive := false
        shedEvent := 0 } }) ∧
    (s.shed.dwell = some d → exec .restoreDwellExpiry s = .next { s.at d with
      shed := { s.shed with dwell := none, dwellMet := true } }) ∧
    (s.shed.interval = some d → exec .restoreIntervalExpiry s = .next { s.at d with
      shed := { s.shed with interval := none } }) ∧
    exec .secondsCountTick s = .next { s with
      shed := { s.shed with seconds := s.shed.seconds + 1 } } ∧
    (s.bs.stepInterval = some d → exec .stepIntervalExpiry s = .next { s.at d with
      bs := { s.bs with stepInterval := none } }) ∧
    (s.bs.capacityHold = some d → exec .capacityHoldExpiry s = .next { s.at d with
      bs := { s.bs with capacityHold := none } })

/-! ## Feeder shedding -/

/-- R114: a change of breaker not confirmed in time leaves the feeder STUCK, its standing order NONE and its
slot empty (R111); a shed that was not
confirmed is made good by another demand of its load, for the same reason. -/
def Obligations.UnconfirmedFeedersAreStuck : Prop :=
  ∀ (s : State) (f : Fin 32) (d : Nat), (s.fdr f).confirm = some d →
    (s.entryOf f = s.shed.stack.find? fun e => decide (e.feeder = f)) ∧
    (∀ e, (s.fdr f).state = .shedPending → s.entryOf f = some e →
      ∃ u : State, exec (.confirmTimerExpiry f) s = .next (u.demand e.load e.reason) ∧
        u.kept = (s.at d).kept ∧ u.fdr f = { s.fdr f with
          state := .stuck, order := .none, confirm := none, sendCount := 0, taken := false
          unanswered := false } ∧ s.EmptiesSlot u (.feeder f) ∧
        (∀ k, k ≠ f → u.fdr k = s.fdr k) ∧ u.sum = s.sum.setFlag .feederStuck ∧
        u.shed.stack = s.shed.stack.filter (fun x => x.feeder != f) ∧
        u.shed.shedEvent =
          (if s.shed.ufActive = true then s.shed.shedEvent - e.load else s.shed.shedEvent) ∧
        u.bal = s.bal ∧ u.cur = s.cur ∧ u.seq = s.seq ∧ u.bs = s.bs) ∧
    ((s.fdr f).state = .restoring ∨ ((s.fdr f).state = .heldOpen ∧ (s.fdr f).order = .close) →
      ∃ t, exec (.confirmTimerExpiry f) s = .next t ∧
        t.kept = (s.at d).kept ∧ t.fdr f = { s.fdr f with
          state := .stuck, order := .none, confirm := none, sendCount := 0, taken := false
          unanswered := false } ∧ s.EmptiesSlot t (.feeder f) ∧
        (∀ k, k ≠ f → t.fdr k = s.fdr k) ∧
        t.sum = s.sum.setFlag .feederStuck ∧
        t.shed.stack = (if (s.fdr f).state = .restoring then
          s.shed.stack.filter (fun x => x.feeder != f) else s.shed.stack) ∧
        t.bal = s.bal ∧ t.cur = s.cur ∧ t.seq = s.seq ∧ t.bs = s.bs)

/-- R116: a stage fires at its delay expiry while it is ARMED, and its demand is what the stages up to it
shed, less what the event has shed. -/
def Obligations.ArmedStagesFire : Prop :=
  ∀ (s : State) (n : Fin 6) (q : Int),
    q = ((stageNumbers.map fun k =>
      if k ≤ n ∧ (s.act.stages[k]).enabled = true then ((s.act.stages[k]).amount : Int)
      else 0).sum) - s.shed.shedEvent →
    (∃ u : State, s.fireStage n = (if 0 < q then u.demand q (.stage n) else u) ∧
      u.kept = s.kept ∧
      u.shed = { s.shed with stages := s.shed.stages.set n.val ⟨.fired, none⟩ n.isLt } ∧
      u.sum = s.sum.setFlag .ufStageFired ∧ (∀ a, u.slot a = s.slot a) ∧
      u.bal = s.bal ∧ u.cur = s.cur ∧ u.seq = s.seq ∧ u.bs = s.bs) ∧
    ∀ d, s.shed.stages[n] = ⟨.armed, some d⟩ →
      exec (.stageDelayExpiry n) s = .next ((s.at d).fireStage n)

/-- R115, R118, R119, R124, R125, in this order: what a tapped BUS report of deviation `d` does at the
shedding unit, in BALANCING, RESTORING and PV_RETURN alone. Stages armed with delay 0 fire in ascending
number (log entry 33). -/
def Obligations.BusReportsJudgeTheStages : Prop :=
  ∀ (s t : State) (d : Int) (armed : Fin 6 → Bool) (inBand : Prop), t = s.shedBusTap d →
    (∀ n, armed n = true ↔ (s.act.stages[n]).enabled = true ∧ s.shed.stages[n].cond = .idle ∧
      d ≤ -((s.act.stages[n]).threshold : Int)) →
    (inBand ↔ -(s.act.recoverBand : Int) ≤ d) →
    (s.bs.island.live = false → t = s) ∧
    (s.bs.island.live = true → ∃ u v x y z : State,
      u = { s with shed := { s.shed with stages := u.shed.stages } } ∧
      (∀ n, u.shed.stages[n] =
        if armed n = true then ⟨.armed, some (s.clock + (s.act.stages[n]).delay)⟩
        else if (s.act.stages[n]).enabled = true ∧ s.shed.stages[n].cond = .armed ∧
          -((s.act.stages[n]).threshold : Int) < d then ⟨.idle, none⟩
        else s.shed.stages[n]) ∧
      v = (if s.shed.ufActive = false ∧ ∃ n, armed n = true then { u with shed := { u.shed with
          ufActive := true, shedEvent := 0, dwell := none, dwellMet := false } } else u) ∧
      x = stageNumbers.foldl (fun x n =>
        if armed n = true ∧ (s.act.stages[n]).delay = 0 then x.fireStage n else x) v ∧
      (x.shed.ufActive = false → y = x) ∧
      (x.shed.ufActive = true → ¬ inBand ∨ (∃ n : Fin 6, x.shed.stages[n].cond = .armed) →
        y = { x with shed := { x.shed with recover := none } }) ∧
      (x.shed.ufActive = true → inBand → (∀ n : Fin 6, x.shed.stages[n].cond ≠ .armed) →
        (x.shed.recover ≠ none → y = x) ∧
        (x.shed.recover = none → s.act.recoverDwell ≠ 0 →
          y = { x with shed := { x.shed with
            recover := some (s.clock + s.act.recoverDwell) } }) ∧
        (x.shed.recover = none → s.act.recoverDwell = 0 →
          y = { x with shed := { x.shed with
            stages := Vector.replicate 6 ⟨.idle, none⟩, ufActive := false, shedEvent := 0 } })) ∧
      (inBand → z =
        if y.shed.dwell = none ∧ y.shed.dwellMet = false then
          { y with shed := { y.shed with dwell := some (s.clock + s.act.restoreDwell) } }
        else y) ∧
      (¬ inBand → z = { y with shed := { y.shed with dwell := none, dwellMet := false } }) ∧
      (z.shed.stack = [] → t = z) ∧
      ∀ e rest (pickup : Nat) (go : Prop), z.shed.stack = e :: rest →
        (pickup = (e.load * (if s.act.coldTime ≤ z.shed.seconds - e.time then
          (s.fdrCfg e.feeder).coldFactor else 1000) + 999) / 1000) →
        (go ↔ s.bs.island = .balancing ∧ s.mode.mode ≠ .commissioning ∧ z.shed.ufActive = false ∧
          z.shed.dwellMet = true ∧ z.shed.interval = none ∧ (z.fdr e.feeder).state = .shed ∧
          (s.fdrRec e.feeder).fresh ≠ .lost ∧
          (∀ k ∈ z.shed.stack, (z.fdr k.feeder).state ≠ .restoring) ∧
          s.bal.fig.valid = true ∧ (pickup : Int) ≤ s.bal.fig.m) →
        (¬ go → t = z) ∧
        (go → t.kept = z.kept ∧ t.bal = z.bal ∧ t.cur = z.cur ∧ t.seq = z.seq ∧ t.bs = z.bs ∧
          t.sum = z.sum ∧ (∀ k, k ≠ e.feeder → t.fdr k = z.fdr k) ∧
          t.fdr e.feeder = { z.fdr e.feeder with
            state := .restoring, order := .close, tag := (z.fdr e.feeder).tag + 1, sendCount := 1
            lastSend := some s.clock, taken := false, unanswered := false, cls := .routine
            confirm := some (s.clock + s.act.shedConfirm) } ∧
          z.Places t (.feeder e.feeder) .close ((z.fdr e.feeder).tag + 1) 0 .routine ∧
          (∀ a, s.act.stationOf (.feeder e.feeder) ≠ some a → t.slot a = z.slot a) ∧
          { t.shed with jobs := z.shed.jobs } =
            { z.shed with interval := some (s.clock + s.act.restoreInterval) }))

/-- R122: a demand takes the shortest run of the feeders that can be shed, in the shed order, whose loads
reach it; each is ordered OPEN, the urgent OPEN placed in its slot (R111), and pushed, and SHED_SHORT is
raised where they do not reach it. No feeder stands in the shed order twice (check 6 of R174). The shed
order is table 5 up to its end marker; a feeder can be shed that is CLOSED and not LOST; its load is that of
its last tapped report, 0 where absent (R110). -/
def Obligations.DemandsShedTheShortestRun : Prop :=
  ∀ (s t : State) (q : Int) (reason : ShedReason) (can : List (Fin 32)),
    s.act.shedList.Nodup → can = s.act.shedList.filter s.canShed → t = s.demand q reason →
    s.act.shedList.map some = s.act.shedOrder.toList.takeWhile Option.isSome ∧
    (∀ i, s.canShed i = true ↔ (s.fdr i).state = .closed ∧ (s.fdrRec i).fresh ≠ .lost) ∧
    (∀ i, s.fdrLoad i = match (s.fdrRec i).vals with | some v => v.load | none => 0) ∧
    ∃ n short, n ≤ can.length ∧ t.kept = s.kept ∧ t.bal = s.bal ∧ t.cur = s.cur ∧ t.seq = s.seq ∧
      t.bs = s.bs ∧
      { t.shed with jobs := s.shed.jobs, stack := s.shed.stack, shedEvent := s.shed.shedEvent } =
        s.shed ∧
      t.shed.stack = ((can.take n).map fun i =>
        (⟨i, s.fdrLoad i, reason, s.shed.seconds⟩ : StackEntry)).reverse ++ s.shed.stack ∧
      (∀ k, k < n → ((((can.take k).map s.fdrLoad).sum : Nat) : Int) < q) ∧
      (short = true ↔ ((((can.take n).map s.fdrLoad).sum : Nat) : Int) < q) ∧
      (short = true → n = can.length) ∧
      (∀ x : Summary, x = (if short = true then s.sum.setFlag .shedShort else s.sum) →
        t.sum = if reason = .deficit ∧ 0 < n then x.setFlag .deficitShed else x) ∧
      (∀ i ∈ can.take n, t.fdr i = { s.fdr i with
          state := .shedPending, order := .open, tag := (s.fdr i).tag + 1, sendCount := 1
          lastSend := some s.clock, taken := false, unanswered := false, cls := .urgent
          confirm := some (s.clock + s.act.shedConfirm) } ∧
        s.Places t (.feeder i) .open ((s.fdr i).tag + 1) 0 .urgent) ∧
      (∀ i, i ∉ can.take n → t.fdr i = s.fdr i) ∧
      (∀ a, (∀ i ∈ can.take n, s.act.stationOf (.feeder i) ≠ some a) → t.slot a = s.slot a) ∧
      t.shed.shedEvent = (if s.shed.ufActive = true then
        s.shed.shedEvent + ((((can.take n).map s.fdrLoad).sum : Nat) : Int) else s.shed.shedEvent)

/-- R123: every command keeps the law of the shed stack. -/
def Obligations.StackHoldsTheShedFeeders : Prop :=
  ∀ (c : Instr) (s t : State), exec c s = .next t → s.StackLaw → t.StackLaw

/-! ## Black start -/

/-- R136, R137, R138, R107, R130, R51: the survey timer expires in SURVEY and the bus is judged as it stands;
a judgement that gives no change enters ABANDONED (R106, R148). That an adoption clears the send count and the
marks of a PV block is log entry 42. -/
def Obligations.SurveyExpiryJudgesTheBus : Prop :=
  ∀ (s : State) (d : Nat), s.bs.survey = some d → s.bs.island = .survey → s.HandedOn →
    ∃ t, exec .surveyTimerExpiry s = .next t ∧ t.bs.survey = none ∧ t.kept = (s.at d).kept ∧
      (s.pic.bus.fresh = .lost ∨ s.pic.bus.vals = none →
        if s.anyClosed = true then (s.at d).Adopts t else (s.at d).EntersAbandoned t) ∧
      (∀ v, s.pic.bus.fresh ≠ .lost → s.pic.bus.vals = some v →
        if s.act.liveThreshold ≤ v.volt then (s.at d).Adopts t
        else if s.act.deadThreshold ≤ v.volt then (s.at d).EntersAbandoned t
        else (s.at d).EntersBlackout t)

/-- What a tapped BUS report does at the set sequencer (R89) and at the controller, by the island state: the
survey (R136 to R138, with R107 and R130 at an adoption), the dead bus (R139, R140), the settled bus (R146),
the live bus (R148). The other reports act at the controller in SURVEY as well, and an FDR report on the
clear-down (R141). The report that leaves ABANDONED for SURVEY is not judged as a report of that survey (log
entry 25); one in RESTORING that qualifies DEAD is judged so and no step with it (log entry 43). That an
adoption clears the send count and the marks of a PV block is log entry 42. -/
def Obligations.BusReportsJudgeTheIsland : Prop :=
  (∀ (s : State) (g : Fin 8) (f : Fin 32) (b : Breaker),
    (s.genShows g b = true ↔ ∃ v ∈ (s.genRec g).vals, v.breaker = b) ∧
    (s.fdrShows f b = true ↔ ∃ v ∈ (s.fdrRec f).vals, v.breaker = b) ∧
    (s.anyClosed = true ↔ ∃ k, (s.genCfg k).configured = true ∧ s.genShows k .closed = true)) ∧
  (∀ s t : State, t = s.seqBusTap →
    t.kept = s.kept ∧ t.bal = s.bal ∧ t.cur = s.cur ∧ t.shed = s.shed ∧ t.bs = s.bs ∧ t.sum = s.sum ∧
    (∀ a, (∀ g, s.act.stationOf (.genset g) ≠ some a) → t.slot a = s.slot a) ∧
    ∀ g, if s.Qual s.pic.bus.nLive ∧ (s.gen g).state = .syncing ∧ (s.gen g).order = .closeDead then
        s.Stands t g .closeSync ∧ (t.gen g).state = .syncing ∧ (t.gen g).sup = (s.gen g).sup ∧
        (t.gen g).mark = (s.gen g).mark ∧ (t.gen g).attempts = (s.gen g).attempts ∧
        (t.gen g).minRun = (s.gen g).minRun
      else t.gen g = s.gen g ∧ ∀ a, s.act.stationOf (.genset g) = some a → t.slot a = s.slot a) ∧
  (∀ s : State, s.bs.island = .survey →
    s.bsBusTap = s.surveyTap true ∧ s.bsGenTap = s.surveyTap true ∧
    s.bsSolTap = s.surveyTap false ∧ s.bsFdrTap = s.surveyTap false) ∧
  (∀ s : State, s.bs.island ≠ .survey → s.bsGenTap = s ∧ s.bsSolTap = s ∧
    (¬ (s.bs.island = .blackout ∧ s.bs.phase = .clearing ∧ s.Settled) → s.bsFdrTap = s) ∧
    (s.bs.island = .blackout → s.bs.phase = .clearing → s.Settled → ∀ t, t = s.bsFdrTap →
      s.EndsClearDown t)) ∧
  (∀ (s t : State) (judging : Bool) (complete : Prop), s.bs.island = .survey →
    t = s.surveyTap judging →
    (complete ↔ s.pic.bus.fresh = .fresh ∧
      ∀ g, (s.genCfg g).configured = true → (s.genRec g).fresh = .fresh) →
    (s.bs.surveyEnded = false → ¬ complete → t = s) ∧
    (s.bs.surveyEnded = true → judging = false → t = s) ∧
    ((s.bs.surveyEnded = false ∧ complete) ∨ (s.bs.surveyEnded = true ∧ judging = true) →
      (s.pic.bus.fresh = .lost ∨ s.pic.bus.vals = none →
        if ∃ g, (s.genCfg g).configured = true ∧ s.genShows g .closed = true then s.Adopts t
        else t = { s with bs := { s.bs with surveyEnded := true } }) ∧
      (∀ v, s.pic.bus.fresh ≠ .lost → s.pic.bus.vals = some v →
        if s.act.liveThreshold ≤ v.volt then s.Adopts t
        else if s.act.deadThreshold ≤ v.volt then
          t = { s with bs := { s.bs with surveyEnded := true } }
        else s.EntersBlackout t))) ∧
  ∀ s t : State, t = s.bsBusTap →
    match s.bs.island with
    | .balancing | .pvReturn => if s.Qual s.pic.bus.nDead then s.LosesBus t else t = s
    | .restoring => if s.Qual s.pic.bus.nDead then s.LosesBus t else t = s.judgeStep
    | .energizing =>
      if s.Qual s.pic.bus.nSettled then
        t.kept = s.kept ∧ t.sum = s.sum.setFlag .islandStateChange ∧ t.shed = s.shed ∧ t.cur = s.cur ∧
        t.bal = s.bal ∧ (∀ a, t.slot a = s.slot a) ∧
        t.bs = { s.bs with
          island := .restoring, phase := .none, survey := none, surveyEnded := false
          energize := none, limit := none, limitExpired := false, stepPtr := none
          stepInterval := some (s.clock + s.act.stepInterval * 1000) } ∧
        ∀ g, t.gen g = if (s.gen g).mark = true then
          { s.gen g with attempts := 0, mark := false } else s.gen g
      else t = s
    | .abandoned =>
      if s.Qual s.pic.bus.nLive then
        t.kept = s.kept ∧ t.sum = s.sum.setFlag .islandStateChange ∧ t.cur = s.cur ∧ t.seq = s.seq ∧
        t.bal = s.bal ∧ (∀ a, t.slot a = s.slot a) ∧
        t.bs = { s.bs with
          island := .survey, phase := .none, survey := some (s.clock + s.act.surveyTime)
          surveyEnded := false } ∧
        t.shed = { s.shed with
          stages := Vector.replicate 6 ⟨.idle, none⟩, recover := none, ufActive := false
          shedEvent := 0, dwell := none, dwellMet := false }
      else t = s
    | .unconfigured | .blackout | .firstSource => t = s
    | .survey => True

/-- R139, R143, R144, R145, R146, R148, R151: what a change of a set's state, handed on, brings about in the
island state in which it came about; one that the island has left behind is dropped (log entry 9). A choice
of a first source is made while no set bears the mark (log entry 35). A set's change that stands alone is
handed on so, and nothing else follows where it brings about no other. -/
def Obligations.SetChangesReachTheController : Prop :=
  (∀ x : GenState, x.onLine = true ↔ x = .online ∨ x = .unloading ∨ x = .unseen) ∧
  (∀ (s : State) (g : Fin 8),
    (s.eligible g = true ↔ (s.genCfg g).configured = true ∧ (s.genCfg g).eligible = true) ∧
    (s.allLockedOut = true ↔ ∀ k, s.eligible k = true → (s.gen k).state = .lockout)) ∧
  (∀ s : State, s.HandedOn → s.drain = s) ∧
  (∀ (s w : State) (c : GenChange), s.seq.changes = [c] →
    w = ({ s with seq := { s.seq with changes := [] } }).onGenChange c → w.HandedOn → s.drain = w) ∧
  ∀ (s t : State) (c : GenChange) (blind : Prop), t = s.onGenChange c →
    (blind ↔ c.old.onLine = true ∧ c.new.onLine = false ∧ s.pic.bus.fresh = .lost ∧
      ∀ g, (s.gen g).state.onLine = false) →
    (c.island ≠ s.bs.island → t = s) ∧
    (c.island = s.bs.island →
      match s.bs.island with
      | .balancing | .pvReturn => (blind → s.LosesBus t) ∧ (¬ blind → t = s)
      | .restoring => ∃ u : State,
          u = (if c.new = .online then { s with bs := { s.bs with
                capacityHold := some (s.clock + 2 * s.act.roundPeriod) } } else s) ∧
          (blind → u.LosesBus t) ∧ (¬ blind → t = u)
      | .firstSource =>
        if c.new = .online ∧ c.marked = true then
          t.kept = s.kept ∧ t.sum = s.sum.setFlag .islandStateChange ∧
          t.bs = { s.bs with
            island := .energizing, phase := .none, survey := none, surveyEnded := false
            energize := some (s.clock + s.act.energizeTime * 1000) } ∧
          t.seq = s.seq ∧ t.shed = s.shed ∧ t.cur = s.cur ∧ t.bal = s.bal ∧ ∀ a, t.slot a = s.slot a
        else if s.eligible c.g = true ∧ (c.new = .lockout ∨ c.new = .notReady) ∧
            ∀ g, s.eligible g = true → (s.gen g).state = .lockout ∨ (s.gen g).state = .notReady then
          s.EntersAbandoned t
        else if s.mode.mode = .commissioning ∨ ∃ g, (s.gen g).mark = true then t = s
        else
          (∀ g, s.FirstChoice g → t = s.startRequest (some g) true) ∧
          ((∀ g, s.eligible g = true → (s.gen g).state ≠ .hot ∧ (s.gen g).state ≠ .standby) → t = s)
      | .energizing =>
        if c.old = .online ∧ c.marked = true then
          if s.bs.limitExpired = true then s.EntersAbandoned t
          else ({ s with bs := { s.bs with energize := none } }).EntersFirstSource t
        else t = s
      | .unconfigured | .survey | .blackout | .abandoned => t = s)

/-- R141, R142, R129: the clear-down timer ends the CLEARING phase; feeders not known open are STUCK, but
LOST ones; in AUTO the controller proceeds at once, to FIRST_SOURCE with the start of the set chosen, or to
ABANDONED (R143, R144). -/
def Obligations.ClearDownExpiryEndsTheClearing : Prop :=
  ∀ (s : State) (d : Nat), s.bs.clearDown = some d → s.HandedOn →
    ((s.bs.island = .blackout ∧ s.bs.phase = .clearing) →
      ∃ t, exec .clearDownTimerExpiry s = .next t ∧ t.kept = (s.at d).kept ∧
        (s.at d).EndsClearDown t) ∧
    (¬ (s.bs.island = .blackout ∧ s.bs.phase = .clearing) →
      exec .clearDownTimerExpiry s =
        .next { s.at d with bs := { s.bs with clearDown := none } })

/-- R147, R148: the black-start limit expires. BLACKOUT and FIRST_SOURCE, and ENERGIZING below the LIVE
count, where the first source takes a failed close (R146), go to ABANDONED: every timer of the controller is
cancelled, a SYNCING set goes to HOT, the UF event ends. -/
def Obligations.BlackStartLimitAbandons : Prop :=
  ∀ (s : State) (d : Nat), s.bs.limit = some d → s.HandedOn →
    (s.bs.island = .blackout ∨ s.bs.island = .firstSource ∨
        (s.bs.island = .energizing ∧ s.pic.bus.nLive < s.act.qualCount) →
      ∃ t u, exec .blackStartLimitExpiry s = .next t ∧ t.kept = (s.at d).kept ∧
        (if s.bs.island = .energizing then
          ({ s.at d with bs := { s.bs with limit := none } }).FailsFirstSource u
        else u = s.at d) ∧
        u.EntersAbandoned t ∧ ∀ g, (t.gen g).mark = true → (t.gen g).state = .online) ∧
    (s.bs.island = .energizing → s.act.qualCount ≤ s.pic.bus.nLive →
      exec .blackStartLimitExpiry s = .next { s.at d with
        bs := { s.bs with limit := none, limitExpired := true } }) ∧
    (s.bs.island ≠ .blackout → s.bs.island ≠ .firstSource → s.bs.island ≠ .energizing →
      exec .blackStartLimitExpiry s = .next { s.at d with bs := { s.bs with limit := none } })

/-- R146, R91, R130: the energize timer expires in ENERGIZING: the first source takes a failed close, and the
island goes back to FIRST_SOURCE, or to ABANDONED where the limit has expired or every eligible set is in
LOCKOUT, as the sets then stand; the UF event ends. -/
def Obligations.EnergizeExpiryFailsTheFirstSource : Prop :=
  ∀ (s : State) (d : Nat), s.bs.energize = some d → s.bs.island = .energizing → s.HandedOn →
    ∃ u t : State, exec .energizeTimerExpiry s = .next t ∧ t.kept = (s.at d).kept ∧
      ({ s.at d with bs := { s.bs with energize := none } }).FailsFirstSource u ∧
      (if s.bs.limitExpired = true then u.EntersAbandoned t else u.EntersFirstSource t) ∧
      t.bs.energize = none ∧ t.shed = s.shed.ended

/-- R82: a start request, by the mode, the slot count and the set it takes; an attempt count above max
attempts comes down to it (log entry 40). R134: a PV hold of 0 ends in the event that starts it. R150, R151,
R152, R154: the judgement of the next step at a tapped BUS report in RESTORING. -/
def Obligations.RestorationStepsAreJudged : Prop :=
  (∀ s : State, s.startCount = (gensets.map fun g =>
    match (s.gen g).state with
    | .cranking | .resting | .warmup | .syncing => 1
    | _ => 0).sum) ∧
  (∀ x : GenState, x.starting = true ↔ x = .cranking ∨ x = .resting ∨ x = .warmup ∨ x = .syncing) ∧
  (∀ x : StepCfg, x.named =
    x.place0.toList ++ x.place1.toList ++ x.place2.toList ++ x.place3.toList) ∧
  (∀ (s : State) (named : Option (Fin 8)) (dead : Bool),
    (s.mode.mode = .commissioning ∨ s.bs.island = .survey ∨ s.act.parallelStarts ≤ s.startCount →
      s.startRequest named dead = s) ∧
    (s.mode.mode ≠ .commissioning → s.bs.island ≠ .survey → s.startCount < s.act.parallelStarts →
      (∀ g, named = some g → (s.gen g).state ≠ .hot → (s.gen g).state ≠ .standby →
        s.startRequest named dead = s) ∧
      (named = none → (∀ k, (s.genCfg k).configured = true →
        (s.gen k).state ≠ .hot ∧ (s.gen k).state ≠ .standby) → s.startRequest named dead = s) ∧
      (∀ g t, t = s.startRequest named dead → (s.gen g).state = .hot →
        named = some g ∨ (named = none ∧ (s.genCfg g).configured = true ∧
          ∀ k, (s.genCfg k).configured = true → (s.gen k).state = .hot → k ≠ g →
            (s.genCfg g).startRank < (s.genCfg k).startRank) →
        s.EntersSyncing t g (if dead = true then .closeDead else .closeSync) ∧
        (dead = true → (t.gen g).mark = true)) ∧
      (∀ g t, t = s.startRequest named dead → (s.gen g).state = .standby →
        named = some g ∨ (named = none ∧ (s.genCfg g).configured = true ∧
          ∀ k, (s.genCfg k).configured = true → (s.gen k).state ≠ .hot ∧
            ((s.gen k).state = .standby → k ≠ g →
              (s.genCfg g).startRank < (s.genCfg k).startRank)) →
        s.EntersCranking t g (min ((s.gen g).attempts + 1) (s.genCfg g).maxAttempts) ∧
        (t.gen g).mark = dead))) ∧
  ∀ (s t w : State) (awaits : Prop), t = s.judgeStep →
    (awaits ↔ s.bs.awaiting = true ∧ ∃ n ∈ s.bs.stepPtr, ∃ f ∈ (s.act.steps[n]).named,
      (s.fdr f).state = .heldOpen ∧ (s.fdr f).order = .close) →
    w = { s with bs := { s.bs with awaiting := false } } →
    (s.mode.mode = .commissioning ∨ awaits → t = s) ∧
    (s.mode.mode ≠ .commissioning → ¬ awaits → (∀ n, ¬ s.StepOpen n) → s.EntersPvReturn t) ∧
    ∀ (n : Fin 16) (need : Nat), s.mode.mode ≠ .commissioning → ¬ awaits → s.StepOpen n →
      (∀ m, m < n → ¬ s.StepOpen m) →
      need = (((s.act.steps[n]).named.filter fun f =>
        (s.fdrCfg f).configured && (s.fdr f).state == .heldOpen).map fun f =>
          (s.fdrCfg f).restartLoad).sum + s.act.reserveBase →
      (s.bs.stepInterval ≠ none ∨ s.bal.fig.valid = false → t = w) ∧
      (s.bs.stepInterval = none → s.bal.fig.valid = true →
        ((need : Int) ≤ s.bal.fig.h →
          t.kept = s.kept ∧ t.bal = s.bal ∧ t.cur = s.cur ∧ t.seq = s.seq ∧ t.sum = s.sum ∧
          t.bs = { s.bs with
            stepPtr := some n, awaiting := true, held := false
            stepInterval := some (s.clock + s.act.stepInterval * 1000) } ∧
          { t.shed with jobs := s.shed.jobs } = s.shed ∧
          (∀ a, (∀ f, s.act.stationOf (.feeder f) ≠ some a) → t.slot a = s.slot a) ∧
          ∀ f, if f ∈ (s.act.steps[n]).named ∧ (s.fdrCfg f).configured = true ∧
                (s.fdr f).state = .heldOpen then
              (t.fdr f).state = .heldOpen ∧ (t.fdr f).order = .close ∧ (t.fdr f).cls = .routine ∧
              (t.fdr f).taken = false ∧ (t.fdr f).unanswered = false ∧
              (t.fdr f).sendCount = 1 ∧ (t.fdr f).lastSend = some s.clock ∧
              (t.fdr f).confirm = some (s.clock + s.act.shedConfirm) ∧
              ((s.act.steps[n]).named.Nodup → (t.fdr f).tag = (s.fdr f).tag + 1) ∧
              s.Places t (.feeder f) .close (t.fdr f).tag 0 .routine
            else t.fdr f = s.fdr f ∧
              ∀ a, s.act.stationOf (.feeder f) = some a → t.slot a = s.slot a) ∧
        (s.bal.fig.h < (need : Int) → ∀ u, u = { w with bs := { w.bs with held := true } } →
          (s.bs.capacityHold ≠ none ∨ s.startCount ≠ 0 → t = u) ∧
          (s.bs.capacityHold = none → s.startCount = 0 →
            ((∃ g, (s.genCfg g).configured = true ∧
                ((s.gen g).state = .hot ∨ (s.gen g).state = .standby)) →
              t = u.startRequest none false) ∧
            ((∀ g, (s.genCfg g).configured = true →
                (s.gen g).state ≠ .hot ∧ (s.gen g).state ≠ .standby) →
              t = ({ w with bs := { w.bs with stepPtr := some n, held := false } }).raise
                .restoreSkipped))))

/-- R153, R154: an expiry of the PV hold or of the PV gap acts on the next block: in COMMISSIONING the
permit is due and not given; with no block left BALANCING is entered and the ramp base kept. Outside
PV_RETURN nothing but the timer changes. -/
def Obligations.PvReturnPermitsTheNextBlock : Prop :=
  ∀ (s w : State) (d : Nat) (c : Instr),
    (c = .pvHoldExpiry ∧ s.bs.pvHold = some d ∧
      w = { s.at d with bs := { s.bs with pvHold := none } }) ∨
    (c = .pvGapExpiry ∧ s.bs.pvGap = some d ∧
      w = { s.at d with bs := { s.bs with pvGap := none } }) → s.HandedOn →
    (s.bs.island ≠ .pvReturn → exec c s = .next w) ∧
    (s.bs.island = .pvReturn → s.mode.mode = .commissioning →
      exec c s = .next { w with bs := { w.bs with permitDue := true } }) ∧
    (s.bs.island = .pvReturn → s.mode.mode ≠ .commissioning →
      ∃ t, exec c s = .next t ∧ w.PermitsNext t)

/-! ## Operating modes and the maintenance line -/

/-- R159: the changes of level of the MNT line, and the pulse timer of a line still low. -/
def Obligations.LineLevelsFormPulses : Prop :=
  ∀ s : State,
    (s.mode.mntHigh = true → s.mode.armed = true → exec .mntLineLow s = .next { s with
      mode := { s.mode with
        mntHigh := false, train := none, pulse := some (s.clock + 20) } }) ∧
    (s.mode.mntHigh = true → s.mode.armed = false → exec .mntLineLow s = .next { s with
      mode := { s.mode with mntHigh := false } }) ∧
    (s.mode.mntHigh = false → s.mode.armed = false → exec .mntLineHigh s = .next { s with
      mode := { s.mode with mntHigh := true, armed := true } }) ∧
    (s.mode.mntHigh = false → s.mode.armed = true → s.mode.pulseMark = true →
      exec .mntLineHigh s = .next { s with
        mode := { s.mode with
          mntHigh := true, pulseMark := false, train := some (s.clock + 600) } }) ∧
    (s.mode.mntHigh = false → s.mode.armed = true → s.mode.pulseMark = false →
      exec .mntLineHigh s = .next { s with
        mode := { s.mode with
          mntHigh := true, pulse := none
          train := if 0 < s.mode.trainCount then some (s.clock + 600) else s.mode.train } }) ∧
    (∀ d, s.mode.mntHigh = false → s.mode.pulse = some d →
      exec .pulseTimerExpiry s = .next { s.at d with
        mode := { s.mode with
          pulse := none, pulseMark := true, trainCount := min 15 (s.mode.trainCount + 1) } })

/-- R160 to R164: the end of a train by its count, and the expiry of the line-mode timer. -/
def Obligations.TrainsSelectTheirAction : Prop :=
  ∀ (s : State) (d : Nat),
    (∀ m, s.mode.train = some d →
      (s.mode.trainCount = 3 ∧ m = Mode.hold) ∨
      (s.mode.trainCount = 5 ∧ m = Mode.commissioning) →
      ∃ t, exec .trainTimerExpiry s = .next t ∧
        t.mode = { s.mode with
          mode := m, source := .line, train := none, trainCount := 0
          lineTimer := some (max s.clock d + s.act.modeHold * 1000) } ∧
        (s.mode.mode ≠ m ∨ s.mode.source ≠ .line → t.sum.has .modeChange = true) ∧
        (s.mode.mode = m → s.mode.source = .line → t.sum = s.sum)) ∧
    (s.mode.train = some d → s.mode.trainCount = 7 →
      ∃ t, exec .trainTimerExpiry s = .next t ∧
        t.mode = { s.mode with
          mode := s.mode.dirMode.toMode, source := .directive, train := none, trainCount := 0
          lineTimer := none } ∧
        (∀ g, (s.gen g).state = .lockout →
          (s.at d).Rests t g .notReady ∧ (t.gen g).attempts = 0) ∧
        (s.mode.mode ≠ s.mode.dirMode.toMode ∨ s.mode.source ≠ .directive →
          t.sum.has .modeChange = true)) ∧
    (s.mode.train = some d → s.mode.trainCount = 9 → s.HandedOn →
      s.bs.island = .blackout → s.bs.phase = .waiting → s.mode.mode = .hold →
      ∃ t, exec .trainTimerExpiry s = .next t ∧
        t.mode = { s.mode with train := none, trainCount := 0 } ∧
        ({ s.at d with mode := { s.mode with train := none, trainCount := 0 } }).EntersFirstSource t) ∧
    (s.mode.train = some d → s.mode.trainCount = 9 → s.HandedOn → s.bs.island = .abandoned →
      ∃ t, exec .trainTimerExpiry s = .next t ∧
        t.mode = { s.mode with train := none, trainCount := 0 } ∧
        ({ s.at d with mode := { s.mode with train := none, trainCount := 0 } }).EntersBlackout t) ∧
    (s.mode.train = some d → s.HandedOn →
      s.mode.trainCount ≠ 3 → s.mode.trainCount ≠ 5 → s.mode.trainCount ≠ 7 →
      s.mode.trainCount ≠ 9 ∨ (s.bs.island ≠ .abandoned ∧
        ¬ (s.bs.island = .blackout ∧ s.bs.phase = .waiting ∧ s.mode.mode = .hold)) →
      exec .trainTimerExpiry s =
        .next { s.at d with mode := { s.mode with train := none, trainCount := 0 } }) ∧
    (s.mode.lineTimer = some d →
      ∃ t, exec .lineModeTimerExpiry s = .next t ∧
        t.mode = { s.mode with
          mode := s.mode.dirMode.toMode, source := .directive, lineTimer := none } ∧
        (s.mode.source = .line → t.sum.has .modeChange = true))

/-- R157, R158, R161, R162, R164: the events at which the mode and its source become those of a train, of a
directive or of the directive mode. R165: what each change of mode does at the neighbours. Into
COMMISSIONING the orders that the mode forbids leave their slots, the insertions of those slots are cut, and
a CLOSE that is not taken is withdrawn (R72, R105, R127); an insertion that still sends a forbidden order
which its slot has lost is cut as well (log entry 11). Out of it a DEFERRED clear-down is ordered (R140), a
first source chosen again (R143), a due permit given (R154). Into AUTO the WAITING phase is left (R142).
MODE_CHANGE is raised first (log entry 8). -/
def Obligations.ModeChangesActOnTheJobs : Prop :=
  (∀ (s v : State) (d : Nat) (m : Mode), s.mode.train = some d →
    (s.mode.trainCount = 3 ∧ m = .hold) ∨ (s.mode.trainCount = 5 ∧ m = .commissioning) →
    v = ({ s.at d with mode := { s.mode with train := none, trainCount := 0 } }).applyMode m .line →
    exec .trainTimerExpiry s = .next { v with mode := { v.mode with
      lineTimer := some (max s.clock d + s.act.modeHold * 1000) } }) ∧
  (∀ (s : State) (d : Nat), s.mode.train = some d → s.mode.trainCount = 7 →
    exec .trainTimerExpiry s = .next ((({ s.at d with mode := { s.mode with
      train := none, trainCount := 0, lineTimer := none } }).applyMode s.mode.dirMode.toMode
        .directive).releaseLockouts.drain)) ∧
  (∀ (s : State) (d : Nat), s.mode.lineTimer = some d →
    exec .lineModeTimerExpiry s = .next (({ s.at d with mode := { s.mode with
      lineTimer := none } }).applyMode s.mode.dirMode.toMode .directive)) ∧
  (∀ (s : State) (src : Addr) (token v : Byte) (m : DirMode), s.CanTake → s.MayControl src →
    dirModeOf v = some m → s.mode.source = .directive → s.mode.dirMode ≠ m →
    exec (.setMode src token [v]) s = .next ((({ s with mode := { s.mode with
      dirMode := m } }).applyMode m.toMode .directive).join src 10 token ⟨.done, false, []⟩)) ∧
  ∀ (s w t : State) (m : Mode) (src : ModeSource) (forbidden : List OrderCode)
    (withdrawn : Fin 32 → Bool),
    s.HandedOn → t = s.applyMode m src →
    w = ({ s with mode := { s.mode with mode := m, source := src } }).raise .modeChange →
    forbidden = [.start, .closeSync, .closeDead, .unload, .load, .stop, .close, .cap, .disconnect,
      .permit] →
    (∀ f, withdrawn f = true ↔ (s.fdr f).order = .close ∧ (s.fdr f).taken = false ∧
      ((s.fdr f).state = .restoring ∨ (s.fdr f).state = .heldOpen)) →
    (s.mode.mode = m → t = if s.mode.source = src then s else w) ∧
    (s.mode.mode ≠ m → m = .commissioning →
      t.kept = w.kept ∧ t.sum = w.sum ∧ t.bs = s.bs ∧ t.bal = s.bal ∧ t.seq = s.seq ∧
      t.cur = s.cur ∧ { t.shed with jobs := s.shed.jobs } = s.shed ∧
      (∀ f, t.fdr f = if withdrawn f = true then { s.fdr f with
          state := if (s.fdr f).state = .restoring then .shed else .heldOpen
          order := .none, confirm := none, sendCount := 0, taken := false, unanswered := false }
        else s.fdr f) ∧
      (∀ a, t.slot a = if (∃ o ∈ s.slot a, o.code ∈ forbidden) ∨
          (∃ f, withdrawn f = true ∧ s.act.stationOf (.feeder f) = some a) then none
        else s.slot a) ∧
      ∀ p, match (s.port p).tx with
        | .inserting (.order a) f stale =>
          if f.orderCode ∈ forbidden.map OrderCode.code ∨ ∃ o ∈ s.slot a, o.code ∈ forbidden then
            (t.port p).lastEnd = .aborted ∧
            (t.port p).tx = if (s.port p).buffer = [] then .idle else .forwarding
          else (t.port p).lastEnd = (s.port p).lastEnd ∧
            (t.port p).tx = .inserting (.order a) f (stale ||
              feeders.any fun k => withdrawn k && s.act.stationOf (.feeder k) == some a)
        | _ => (t.port p).lastEnd = (s.port p).lastEnd ∧ (t.port p).tx = (w.port p).tx) ∧
    (s.mode.mode = .commissioning → m ≠ .commissioning →
      (s.bs.island = .blackout → s.bs.phase = .deferred →
        t.kept = w.kept ∧ t.shed.stack = [] ∧ t.bal = s.bal ∧ w.OrdersClearDown t s.bs) ∧
      (s.bs.island = .blackout → s.bs.phase ≠ .deferred →
        if m = .auto ∧ s.bs.phase = .waiting then w.EntersFirstSource t else t = w) ∧
      (s.bs.island = .firstSource →
        ((∃ g, (s.gen g).mark = true) ∨ (∀ g, s.eligible g = true →
          (s.gen g).state ≠ .hot ∧ (s.gen g).state ≠ .standby) → t = w) ∧
        ∀ g u, (∀ k, (s.gen k).mark = false) → s.FirstChoice g →
          u = w.startRequest (some g) true → t = { u with seq := { u.seq with changes := [] } }) ∧
      (s.bs.island = .pvReturn →
        if s.bs.permitDue = true then
          ({ w with bs := { s.bs with permitDue := false } }).PermitsNext t
        else t = w) ∧
      (s.bs.island ≠ .blackout → s.bs.island ≠ .firstSource → s.bs.island ≠ .pvReturn → t = w)) ∧
    (s.mode.mode = .hold → m = .auto →
      if s.bs.island = .blackout ∧ s.bs.phase = .waiting then w.EntersFirstSource t else t = w) ∧
    (s.mode.mode = .auto → m = .hold → t = w)

/-- R165: in COMMISSIONING no order waits or is sent but OPEN; every command keeps this law, and the
soundness of orders on which it rests. -/
def Obligations.CommissioningSendsOpenAlone : Prop :=
  ∀ (c : Instr) (s t : State), exec c s = .next t → s.OrdersSound →
    t.OrdersSound ∧ (s.CommissioningLaw → t.CommissioningLaw)

/-- R95: no genset in LOCKOUT is sent a START. Every command keeps it, from every state in which what waits
in the slots agrees with the sets; that agreement is kept as well. An insertion in progress of a START for
the station of a set is cut when the set enters LOCKOUT. A set in LOCKOUT that a commit moves is left out of
the last clause where it moves: R21 empties slots and cuts nothing, so that an insertion for the station
that another set has left goes on (the model's reading, log entries 11 and 22). -/
def Obligations.LockoutIsSentNoStart : Prop :=
  ∀ (c : Instr) (s t : State), exec c s = .next t → s.UnitsSound →
    t.UnitsSound ∧
    (s.SlotsSound → t.SlotsSound ∧
      (∀ g, (t.gen g).state = .lockout → (t.gen g).order ≠ .start ∧
        ∀ a, t.act.stationOf (.genset g) = some a → ∀ o ∈ t.slot a, o.code ≠ .start) ∧
      ∀ g, (t.gen g).state = .lockout →
        ((s.gen g).state = .lockout →
          t.act.stationOf (.genset g) = s.act.stationOf (.genset g) ∧ s.SendsNoStart g) →
        t.SendsNoStart g)

/-! ## Tables, commit and the setting store -/

/-- R168, R169, R172: the checks on WRITE TABLE and CLEAR SHADOW in their order; the shadow alone is
written, and a cleared table holds its empty values, the parameters their defaults (R192). R170, 11.5, 11.6:
for each table, the length of a record and the number of records, the codes that a record may hold, the
field that each byte gives, the range that each number is clamped to, and when the write says that it has
clamped. R192, 11.6: the record that each parameter is read from, and how the restore dwell and the restore
interval are formed from two records each and held between 1000 and 600000 ms. The least rating of a PV
block is a free value (log entry 21). -/
def Obligations.TableWritesAreJudgedInOrder : Prop :=
  (∀ (s : State) (src : Addr) (token tb ib : Byte) (r : List Byte) (t i : Nat) (guarded : Prop),
    s.CanTake → s.MayControl src → t = tb.toNat → i = ib.toNat →
    (guarded ↔ t = 9 ∨ ∃ k : Fin 8, t = k.val + 1 ∧ (s.act.guards[k]) = true) →
    (t = 0 ∨ 9 < t →
      exec (.writeTable src token (tb :: ib :: r)) s =
        .next (s.join src 2 token ⟨.range, false, []⟩) ∧
      exec (.clearShadow src token [tb]) s = .next (s.join src 3 token ⟨.range, false, []⟩)) ∧
    (1 ≤ t → t ≤ 9 → guarded → s.mode.mode ≠ .commissioning →
      exec (.writeTable src token (tb :: ib :: r)) s =
        .next (s.join src 2 token ⟨.guarded, false, []⟩) ∧
      exec (.clearShadow src token [tb]) s = .next (s.join src 3 token ⟨.guarded, false, []⟩)) ∧
    (1 ≤ t → t ≤ 9 → ¬ guarded ∨ s.mode.mode = .commissioning →
      (r.length ≠ tableSize t → exec (.writeTable src token (tb :: ib :: r)) s =
        .next (s.join src 2 token ⟨.length, false, []⟩)) ∧
      (r.length = tableSize t →
        tableCount t ≤ i ∨ s.bank.shadow.writeRecord t i r = none →
        exec (.writeTable src token (tb :: ib :: r)) s =
          .next (s.join src 2 token ⟨.range, false, []⟩)) ∧
      (∀ w, r.length = tableSize t → i < tableCount t →
        s.bank.shadow.writeRecord t i r = some w →
        exec (.writeTable src token (tb :: ib :: r)) s =
          .next ({ s with bank := { s.bank with shadow := w.bank } }.join src 2 token
            ⟨.done, w.clamped, []⟩)) ∧
      exec (.clearShadow src token [tb]) s =
        .next ({ s with bank := { s.bank with shadow := s.bank.shadow.clearTable t } }.join
          src 3 token ⟨.done, false, []⟩))) ∧
  (∀ x ∈ [(1, 2, 64), (2, 26, 8), (3, 5, 16), (4, 5, 32), (5, 1, 32), (6, 7, 6), (7, 5, 16), (8, 2, 40),
      (9, 8, 1)], tableSize x.1 = x.2.1 ∧ tableCount x.1 = x.2.2) ∧
  (∀ b : Bank,
    b.clearTable 1 = { b with station := Vector.replicate 64 none } ∧
    b.clearTable 2 =
      { b with genset := Vector.replicate 8 ⟨false, 100, 0, 0, false, 1, 0, 1, 1, 0, 1, 0, 1, 0, 1⟩ } ∧
    b.clearTable 3 =
      { b with pv := Vector.replicate 16 ⟨false, min 4000 Config.pvRatingLeast, 0, 0⟩ } ∧
    b.clearTable 4 = { b with feeder := Vector.replicate 32 ⟨false, 1000, 0⟩ } ∧
    b.clearTable 5 = { b with shedOrder := Vector.replicate 32 none } ∧
    b.clearTable 6 = { b with stages := Vector.replicate 6 ⟨false, 10, 0, 0⟩ } ∧
    b.clearTable 7 = { b with steps := Vector.replicate 16 ⟨false, none, none, none, none⟩ } ∧
    b.clearTable 8 = { b with params := #v[3, 1000, 8, 60, 600, 32, 1 * 256 + 63, 200, 900, 300,
      200, 200, 300, 40, 3, 100, 1500, 5, 20, 100, 8, 1, 50, 50, 500, 200, 5000, 30000, 10000, 0, 900, 0,
      2000, 10, 600, 30, 20, 120, 10, 1800] } ∧
    b.clearTable 9 = { b with guards := Vector.replicate 8 false } ∧
    [1, 2, 3, 4, 5, 6, 7, 8, 9].foldl Bank.clearTable b = Bank.empty) ∧
  (∀ (b : Bank) (x : Nat → Nat) (extended : Nat → Nat → Nat), (∀ i : Fin 40, x i.val = b.params[i]) →
    (∀ ext low, extended ext low =
      if ext * 65536 + low < 1000 then 1000
      else if 600000 < ext * 65536 + low then 600000 else ext * 65536 + low) →
    b.qualCount = x 0 ∧ b.errorWindow = x 1 ∧ b.errorLimit = x 2 ∧ b.lateTimeout = x 3 ∧
    b.lostTimeout = x 4 ∧ b.hopCount = x 5 ∧ b.super1.val = x 6 / 256 % 64 ∧
    b.super2.val = x 6 % 256 % 64 ∧ b.deadThreshold = x 7 ∧ b.liveThreshold = x 8 ∧
    b.settleBand = x 9 ∧ b.roundPeriod = x 10 ∧ b.rampUp = x 11 ∧ b.reserveBase = x 12 ∧
    b.cover = x 13 ∧ b.startDwell = x 14 ∧ b.stopMargin = x 15 ∧ b.stopDwell = x 16 ∧
    b.deficitDwell = x 17 ∧ b.capDeadband = x 18 ∧ b.resendInterval = x 19 ∧ b.resendLimit = x 20 ∧
    b.parallelStarts = x 21 ∧ b.tripThreshold = x 22 ∧ b.pvCredit = x 23 ∧ b.shedConfirm = x 24 ∧
    b.recoverBand = x 25 ∧ b.recoverDwell = x 26 ∧ b.restoreDwell = extended (x 29 / 256) (x 27) ∧
    b.restoreInterval = extended (x 29 % 256) (x 28) ∧ b.coldTime = x 30 ∧
    (b.blackStartEnabled = true ↔ x 31 ≠ 0) ∧ b.surveyTime = x 32 ∧ b.clearDownTime = x 33 ∧
    b.blackStartLimit = x 34 ∧ b.energizeTime = x 35 ∧ b.stepInterval = x 36 ∧ b.pvHold = x 37 ∧
    b.pvGap = x 38 ∧ b.modeHold = x 39) ∧
  ∀ (b : Bank) (i : Nat) (r : List Byte) (w : Written) (strays : List (Nat × Nat × Nat) → Bool)
    (fit : Nat × Nat × Nat → Nat) (one two : Nat → Nat) (yes : Nat → Bool)
    (ranges : List (Nat × Nat)),
    (∀ x, fit x = min x.2.2 (max x.2.1 x.1)) → (∀ l, strays l = l.any fun x => fit x != x.1) →
    (∀ k, one k = (r.getD k 0).toNat) → (∀ k, two k = one k * 256 + one (k + 1)) →
    (∀ k, yes k = (one k != 0)) →
    ranges = [(1, 8), (100, 10000), (1, 255), (10, 1000), (100, 10000), (1, 63), (0, 65535), (0, 500),
        (500, 1200), (10, 2000)]
      ++ [(50, 1000), (1, 20000), (0, 20000), (0, 100), (1, 50), (0, 5000), (1, 3000), (1, 50), (0, 500),
        (20, 2000)]
      ++ [(1, 20), (1, 3), (0, 2000), (0, 100), (50, 5000), (0, 1000), (0, 60000), (0, 65535),
        (0, 65535), (0, 65535)]
      ++ [(0, 7200), (0, 1), (500, 10000), (1, 60), (60, 1800), (5, 120), (1, 300), (0, 1800), (1, 300),
        (60, 7200)] →
    (b.writeRecord 1 i r = some w ↔ ∃ u, NamesUnit (r.getD 0 0) (r.getD 1 0) u ∧
      w = ⟨{ b with station := b.station.setIfInBounds i u }, false⟩) ∧
    b.writeRecord 2 i r = some ⟨{ b with
        genset := b.genset.setIfInBounds i
          ⟨yes 0, fit (two 1, 100, 4000), fit (two 3, 0, 3999), fit (one 5, 0, 7), yes 6,
          fit (one 7, 1, 3), fit (two 8, 0, 1000), fit (two 10, 1, 60), fit (two 12, 1, 120),
          fit (two 14, 0, 600), fit (two 16, 1, 120), fit (two 18, 0, 7200), fit (two 20, 1, 300),
          fit (two 22, 0, 1800), fit (two 24, 1, 120)⟩ },
      strays [(two 1, 100, 4000), (two 3, 0, 3999), (one 5, 0, 7), (one 7, 1, 3), (two 8, 0, 1000),
        (two 10, 1, 60), (two 12, 1, 120), (two 14, 0, 600), (two 16, 1, 120), (two 18, 0, 7200),
        (two 20, 1, 300), (two 22, 0, 1800), (two 24, 1, 120)]⟩ ∧
    b.writeRecord 3 i r = some ⟨{ b with
        pv := b.pv.setIfInBounds i
          ⟨yes 0, fit (two 1, Config.pvRatingLeast, 4000), fit (one 3, 0, 3), fit (one 4, 0, 15)⟩ },
      strays [(two 1, Config.pvRatingLeast, 4000), (one 3, 0, 3), (one 4, 0, 15)]⟩ ∧
    b.writeRecord 4 i r = some ⟨{ b with
        feeder := b.feeder.setIfInBounds i
          ⟨yes 0, fit (two 1, 1000, 3000), fit (two 3, 0, 4000)⟩ },
      strays [(two 1, 1000, 3000), (two 3, 0, 4000)]⟩ ∧
    (b.writeRecord 5 i r = some w ↔ ∃ f, NamesFeeder (r.getD 0 0) f ∧
      w = ⟨{ b with shedOrder := b.shedOrder.setIfInBounds i f }, false⟩) ∧
    b.writeRecord 6 i r = some ⟨{ b with
        stages := b.stages.setIfInBounds i
          ⟨yes 0, fit (two 1, 10, 5000), fit (two 3, 0, 5000), fit (two 5, 0, 20000)⟩ },
      strays [(two 1, 10, 5000), (two 3, 0, 5000), (two 5, 0, 20000)]⟩ ∧
    (b.writeRecord 7 i r = some w ↔ ∃ f0 f1 f2 f3, NamesFeeder (r.getD 1 0) f0 ∧
      NamesFeeder (r.getD 2 0) f1 ∧ NamesFeeder (r.getD 3 0) f2 ∧ NamesFeeder (r.getD 4 0) f3 ∧
      w = ⟨{ b with steps := b.steps.setIfInBounds i ⟨yes 0, f0, f1, f2, f3⟩ }, false⟩) ∧
    (∀ top : Nat, (i = 6 ∧ top = 63) ∨ (i = 29 ∧ top = 9) →
      b.writeRecord 8 i r = some ⟨{ b with
          params := b.params.setIfInBounds i
            (fit (one 0, 0, top) * 256 + fit (one 1, 0, top)) },
        strays [(one 0, 0, top), (one 1, 0, top)]⟩) ∧
    (∀ lo hi, i ≠ 6 → i ≠ 29 → ranges[i]? = some (lo, hi) →
      b.writeRecord 8 i r = some ⟨{ b with params := b.params.setIfInBounds i (fit (two 0, lo, hi)) },
        strays [(two 0, lo, hi)]⟩) ∧
    (b.writeRecord 9 i r = some w ↔ w.clamped = false ∧ { w.bank with guards := b.guards } = b ∧
      ∀ k : Fin 8, w.bank.guards[k] = yes k.val)

/-- R169, R170: a record written reads back in a form that, written again, changes nothing and clamps
nothing, and no other record changes. 11.5, R177, R178: a bank that an image gives has an image of 818 bytes
that gives it again. -/
def Obligations.RecordsAndImagesReadBack : Prop :=
  (∀ (b : Bank) (t i : Nat) (r : List Byte) (w : Written), i < tableCount t →
    r.length = tableSize t → b.writeRecord t i r = some w →
    (w.bank.readRecord t i).length = tableSize t ∧
    w.bank.writeRecord t i (w.bank.readRecord t i) = some ⟨w.bank, false⟩ ∧
    ∀ t' i', i' < tableCount t' → t' ≠ t ∨ i' ≠ i →
      w.bank.readRecord t' i' = b.readRecord t' i') ∧
  (∀ b : Bank, b.image = [1, 2, 3, 4, 5, 6, 7, 8, 9].flatMap fun t =>
    (List.range (tableCount t)).flatMap fun i => b.readRecord t i) ∧
  ∀ (bytes : List Byte) (b : Bank), bytes.length = 818 → Bank.ofImage bytes = some b →
    b.image.length = 818 ∧ Bank.ofImage b.image = some b

/-- R176 with R21, R27, R32, R78, R83, R108, R131 and R155: what a commit that takes effect does to the
records of the units and of the jobs. The units that it removes or configures begin afresh, those that it
moves go LOST, changed ratings clamp again, the slots at old addresses are emptied, so is a pending OPEN of a
feeder on the stack that leaves the shed order, every other slot is kept, and starts above lowered
parallel starts are ended, the set of highest start rank first. The controller then enters SURVEY from
UNCONFIGURED, or finds the bus lost where nothing is left on line to be seen, and COMMIT_DONE is raised. What
the tables of these rules leave open is log entry 22; what the store holds while the save runs, its image and
check word kept and no image whole, is log entries 5 and 28. -/
def Obligations.CommitsActOnTheRecords : Prop :=
  (∀ (s : State) (d : Nat), s.bal.roundTimer = some d →
    exec .roundTimerExpiry s = .next ((s.at d).commitBoundary.restartRound.round)) ∧
  ∀ (s : State) (old new : Bank) (changed moved : UnitRef → Bool) (busLost : Bool) (starts : Nat)
    (clamp : Int → Nat → Nat) (job : Fin 8 → GenJob) (offOrder : Addr → Bool),
    s.bank.pending = true → s.bs.island = .balancing ∨ s.bs.island = .unconfigured →
    s.shed.ufActive = false → s.bank.shadow.commitCheck s.ownAddr = none → s.HandedOn →
    old = s.bank.active → new = s.bank.shadow →
    (∀ u, changed u = (old.configured u != new.configured u)) →
    (∀ u, moved u = (old.configured u && new.configured u &&
      old.stationOf u != new.stationOf u)) →
    busLost = (s.pic.bus.fresh != .lost && old.configured .busmeter &&
      (changed .busmeter || moved .busmeter)) →
    clamp = (fun (raw : Int) (top : Nat) => (max 0 (min raw (top : Int))).toNat) →
    (∀ g j, j = { s.gen g with
        attempts := if (new.genset[g]).maxAttempts < (old.genset[g]).maxAttempts then
          min (s.gen g).attempts (new.genset[g]).maxAttempts else (s.gen g).attempts } →
      job g =
        if changed (.genset g) = true then
          ⟨.notReady, none, .none, 0, 0, none, false, false, .routine, 0, false, none, .stopped⟩
        else if old.configured (.genset g) = false then s.gen g
        else if moved (.genset g) = true ∧ (s.genRec g).fresh ≠ .lost then
          match j.state with
          | .standby => { j with
              state := .notReady, before := none, order := .none, sendCount := 0, taken := false
              unanswered := false, mark := false, sup := none, minRun := .stopped }
          | .online | .unloading => { j with
              state := .unseen, before := some j.state, mark := false, sup := none }
          | _ => j
        else j) →
    starts = (gensets.filter fun g => (job g).state.starting).length →
    (∀ a, offOrder a = true ↔ ∃ e ∈ s.shed.stack, e.feeder ∈ old.shedList ∧ e.feeder ∉ new.shedList ∧
      new.stationOf (.feeder e.feeder) = some a ∧ ∃ o ∈ s.slot a, o.code = .open) →
    ∃ w x : State, w.HandedOn ∧
      w.kept = { s.kept with pic := w.pic, bank := ⟨new, new, true, false, .done⟩ } ∧
      w.bal = s.bal ∧ w.bs = s.bs ∧ w.sum = s.sum ∧
      (∀ g, w.genRec g =
        if changed (.genset g) = true then ⟨none, none, .lost, none, 0, 0, 0, 0⟩
        else
          let r := if moved (.genset g) = true then { s.genRec g with
              fresh := .lost, late := none, nRunning := 0, nStopped := 0, nClosed := 0, nOpen := 0 }
            else s.genRec g
          let top := (new.genset[g]).rating
          if new.configured (.genset g) = true ∧ (old.genset[g]).rating ≠ top then { r with
              vals := r.vals.map fun v => { v with out := clamp v.rawOut top }
              lastLoaded := r.lastLoaded.map fun y => min y top }
          else r) ∧
      (∀ b, w.pvRec b =
        if changed (.pv b) = true then ⟨none, .lost, none⟩
        else
          let r := if moved (.pv b) = true then { s.pvRec b with fresh := .lost, late := none }
            else s.pvRec b
          let top := (new.pv[b]).rating
          if new.configured (.pv b) = true ∧ (old.pv[b]).rating ≠ top then { r with
              vals := r.vals.map fun v => { v with
                out := clamp v.rawOut top
                avail := clamp (max (clamp v.rawOut top : Int) v.rawAvail) top } }
          else r) ∧
      (∀ f, w.fdrRec f =
        if changed (.feeder f) = true then ⟨none, .lost, none⟩
        else if moved (.feeder f) = true then { s.fdrRec f with fresh := .lost, late := none }
        else s.fdrRec f) ∧
      (w.pic.bus =
        if changed .busmeter = true then ⟨none, .lost, none, 0, 0, 0⟩
        else if moved .busmeter = true then ⟨s.pic.bus.vals, .lost, none, 0, 0, 0⟩
        else s.pic.bus) ∧
      (∀ u a, old.configured u = true → changed u = true ∨ moved u = true →
        old.stationOf u = some a →
        (∀ g, new.stationOf (.genset g) ≠ some a) ∨ starts ≤ new.parallelStarts →
        w.slot a = none) ∧
      (∀ u a, old.configured u = true → changed u = false → moved u = false →
        old.stationOf u = some a → (∀ g, u ≠ .genset g) →
        w.slot a = if offOrder a then none else s.slot a) ∧
      (∀ g a, old.configured (.genset g) = true → changed (.genset g) = false →
        moved (.genset g) = false → old.stationOf (.genset g) = some a → w.gen g = job g →
        w.slot a = s.slot a) ∧
      (∀ a, (∀ u, old.configured u = true → changed u = true ∨ moved u = true →
          old.stationOf u ≠ some a) →
        (∀ g, new.stationOf (.genset g) ≠ some a) →
        w.slot a = if offOrder a then none else s.slot a) ∧
      (∀ e ∈ s.shed.stack, e.feeder ∈ old.shedList → e.feeder ∉ new.shedList → ∀ a o,
        new.stationOf (.feeder e.feeder) = some a → w.slot a = some o → o.code ≠ .open) ∧
      { w.cur with jobs := s.cur.jobs } = s.cur ∧
      (∀ b, w.pv b = if changed (.pv b) = true then
          ⟨.off, .none, none, 0, 0, none, false, false, .routine, none⟩ else s.pv b) ∧
      (∀ f, w.fdr f = if changed (.feeder f) = true then
          ⟨.openOther, .none, 0, 0, none, false, false, .routine, none, false⟩ else s.fdr f) ∧
      (∀ y, y = { s.shed with
          jobs := w.shed.jobs
          stack := s.shed.stack.filter fun e => !changed (.feeder e.feeder) } →
        w.shed = if busLost = true then { y with
            stages := y.stages.map fun z => if z.cond = .armed then ⟨.idle, none⟩ else z
            recover := none, dwell := none, dwellMet := false }
          else y) ∧
      (starts ≤ new.parallelStarts → ∀ g, w.gen g = job g) ∧
      (new.parallelStarts < starts → w.startCount = new.parallelStarts ∧
        ∀ g, w.gen g = job g ∨
          ((job g).state.starting = true ∧
            (∀ k, (w.gen k).state.starting = true →
              (new.genset[k]).startRank ≤ (new.genset[g]).startRank) ∧
            (w.gen g).attempts = (job g).attempts ∧ (w.gen g).mark = false ∧
            ∃ v : State, v.kept = w.kept ∧ v.gen g = job g ∧
              (old.configured (.genset g) = true → moved (.genset g) = false → ∀ a,
                new.stationOf (.genset g) = some a → v.slot a = s.slot a) ∧
              match (job g).state with
              | .warmup | .syncing => v.GoesHot w g
              | _ => (w.gen g).state = .stopping ∧ v.Stands w g .stop ∧
                  (w.gen g).sup = some (s.clock + (new.genset[g]).stopTime * 1000))) ∧
      (s.bs.island = .unconfigured →
        x.kept = w.kept ∧ x.bal = w.bal ∧ x.cur = w.cur ∧ x.seq = w.seq ∧
        (∀ a, x.slot a = w.slot a) ∧ x.sum = s.sum.setFlag .islandStateChange ∧
        x.bs = { w.bs with
          island := .survey, phase := .none, survey := some (s.clock + new.surveyTime)
          surveyEnded := false } ∧
        x.shed = { w.shed with
          stages := Vector.replicate 6 ⟨.idle, none⟩, recover := none, ufActive := false
          shedEvent := 0, dwell := none, dwellMet := false }) ∧
      (s.bs.island = .balancing →
        if w.pic.bus.fresh = .lost ∧ (∀ g, (w.gen g).state.onLine = false) ∧
            (busLost = true ∨ ∃ g, changed (.genset g) = true ∧ old.configured (.genset g) = true ∧
              (s.gen g).state.onLine = true) then w.LosesBus x
        else x = w) ∧
      s.commitBoundary = { x.raise .commitDone with
        store := { s.store with cond := .saving, whole := false } }

/-- R167: the active bank changes only at a power-up, or at a round expiry at which the island state is
BALANCING or UNCONFIGURED and no UF event is active, and then it becomes the shadow. R177, R178: a save ends
with the image of the active bank and its check word in the store; the image changes by the end of a save
alone, not while the save runs (log entry 28), the store by that, a boundary or a power-up. -/
def Obligations.BankAndImageChangeAtTheirEventsAlone : Prop :=
  (∀ (c : Instr) (s t : State), exec c s = .next t → t.bank.active ≠ s.bank.active →
    (∃ strap mntHigh, c = .powerUpOrPinReset strap mntHigh) ∨
    (c = .roundTimerExpiry ∧ s.bank.pending = true ∧ t.bank.active = s.bank.shadow ∧
      (s.bs.island = .balancing ∨ s.bs.island = .unconfigured) ∧ s.shed.ufActive = false)) ∧
  (∀ s : State, s.store.cond = .saving → exec .storeSaveDone s = .next { s with
    store := ⟨.valid, true, s.bank.active.image, crc16 s.bank.active.image⟩ }) ∧
  ∀ (c : Instr) (s t : State), exec c s = .next t →
    (t.store.image ≠ s.store.image → c = .storeSaveDone ∧ s.store.cond = .saving) ∧
    (t.store ≠ s.store → c = .storeSaveDone ∨ c = .roundTimerExpiry ∨
      ∃ strap mntHigh, c = .powerUpOrPinReset strap mntHigh)

/-- R173: COMMIT is judged. R174: the thirteen checks in their order, the first that fails giving its number
and index; of several places at which it fails the lowest, which is log entry 38. R175, R176, R177: at the
round expiry a pending commit takes effect, is dropped, or waits. What the store holds while the save runs,
its image and check word kept and no image whole, is log entries 5 and 28. -/
def Obligations.BoundaryTakesTheCommit : Prop :=
  (∀ (s : State) (src : Addr) (token : Byte), s.CanTake → s.MayControl src →
    (s.store.cond = .saving → exec (.commit src token []) s = .next
      (s.join src 4 token ⟨.busy, false, []⟩)) ∧
    (∀ x, s.store.cond ≠ .saving → s.bank.shadow.commitCheck s.ownAddr = some x →
      exec (.commit src token []) s =
        .next (s.join src 4 token ⟨.invalid, false, [byte x.check, byte x.index]⟩)) ∧
    (s.store.cond ≠ .saving → s.bank.shadow.commitCheck s.ownAddr = none →
      exec (.commit src token []) s =
        .next ({ s with bank := { s.bank with pending := true } }.join src 4 token
          ⟨.pending, false, []⟩))) ∧
  (∀ (b : Bank) (own : Option Addr),
    (b.commitCheck own = none ↔ ∀ k i, ¬ b.FailsAt own k i) ∧
    ∀ k i, b.commitCheck own = some ⟨k, i⟩ ↔
      b.FailsAt own k i ∧ (∀ j, j < i → ¬ b.FailsAt own k j) ∧
        ∀ n j, n < k → ¬ b.FailsAt own n j) ∧
  ∀ (s : State) (d : Nat) (quiet : Prop), s.bal.roundTimer = some d →
    (quiet ↔ (s.bs.island = .balancing ∨ s.bs.island = .unconfigured) ∧
      s.shed.ufActive = false) →
    (s.bank.pending = false ∨ ¬ quiet →
      ∃ t, exec .roundTimerExpiry s = .next t ∧ t.store = s.store ∧ t.bank = s.bank) ∧
    (s.bank.pending = true → quiet → s.bank.shadow.commitCheck s.ownAddr = none →
      ∃ t, exec .roundTimerExpiry s = .next t ∧
        t.bank = ⟨s.bank.shadow, s.bank.shadow, true, false, .done⟩ ∧
        t.store = { s.store with cond := .saving, whole := false } ∧
        t.sum.has .commitDone = true ∧
        (s.bs.island = .unconfigured → t.bs.island = .survey)) ∧
    (∀ x, s.bank.pending = true → quiet → s.bank.shadow.commitCheck s.ownAddr = some x →
      ∃ t, exec .roundTimerExpiry s = .next t ∧ t.store = s.store ∧
        t.bank = { s.bank with pending := false, last := .dropped x.check x.index } ∧
        (s.sum.has .commitDone = false → t.sum.has .commitDone = false))

/-! ## Directives, answers and notices -/

/-- R181, R182, R186: what stands before every directive: the discard window, the full FIFO, the source and
the argument length (check 4 and the forms of 11.4, row by row; an address of 63 is no supervisory address).
One that passes is answered by the block that owns it. -/
def Obligations.DirectivesPassTheirChecks : Prop :=
  (∀ (s : State) (src : Addr), s.supervises src = true ↔
    src.val ≠ 63 ∧ (src = s.act.super1 ∨ src = s.act.super2)) ∧
  ∀ row ∈ directiveRows, ∀ (s : State) (src : Addr) (token : Byte) (args : List Byte),
    (s.dir.window = true → exec (row.make src token args) s = .next s) ∧
    (s.dir.window = false → 4 ≤ s.loop.answers.length →
      exec (row.make src token args) s = .next { s with
        dir := { s.dir with overrun := min 255 (s.dir.overrun + 1) } }) ∧
    (s.CanTake → row.anySource = false → ¬ s.MayControl src →
      exec (row.make src token args) s =
        .next (s.join src row.code token ⟨.notPermitted, false, []⟩)) ∧
    (s.CanTake → row.anySource = true ∨ s.MayControl src → ¬ row.Fits args.length →
      exec (row.make src token args) s =
        .next (s.join src row.code token ⟨.length, false, []⟩)) ∧
    (s.CanTake → row.anySource = true ∨ s.MayControl src → row.Fits args.length →
      ∃ (t : State) (x : Reply), exec (row.make src token args) s =
          .next (t.join src row.code token x) ∧
        x.result ≠ .notPermitted ∧ x.result ≠ .unknown ∧ (row.code ≠ 2 → x.result ≠ .length))

/-- R191, R14, R15: an answer joins the tail of the FIFO in segments of 42 bytes and a remainder, which
take consecutive sequence numbers and marks of their own; nothing else of the part changes but the
model's count of readings. -/
def Obligations.AnswersJoinInSegments : Prop :=
  ∀ (s t : State) (src : Addr) (code token : Byte) (r : Reply), r.data.length ≤ 378 →
    t = s.join src code token r →
    ∃ segs : List Segment,
      t.loop.answers = s.loop.answers ++ [⟨src, code, token, r.result, r.clamped, segs⟩] ∧
      segs.flatMap (·.data) = r.data ∧ segs ≠ [] ∧
      (∀ i g, segs[i]? = some g → g.hop = s.act.hopCount ∧
        g.seq = s.loop.seqCounter + BitVec.ofNat 8 i ∧ g.marks = s.newMarks ∧
        g.data.length ≤ 42 ∧ (i + 1 < segs.length → g.data.length = 42)) ∧
      t.loop.seqCounter = s.loop.seqCounter + BitVec.ofNat 8 segs.length ∧
      { t with
        loop := { t.loop with answers := s.loop.answers, seqCounter := s.loop.seqCounter }
        dir := { s.dir with reading := t.dir.reading } } = s

/-- R171, R184: READ TABLE and READ UNIT, which change nothing but the FIFO. The record of READ UNIT has its
full length where values are absent (log entry 20); each of its bytes, and each of those below, has its place
in 11.4, in the arrangement of log entry 27, numbers as log entry 26 has them, the open-confirmed mark as log
entry 34 has it. R185, R132: READ BALANCE answers 151 bytes in 4 segments, with the stop candidate of the
engine (log entry 39), and READ STACK 22 bytes and 11 for each entry, both formed from the state at the
taking. 11.2: the byte order, the signs and the flags of these bytes, the codes that no other statement gives,
and the units that a kind and an index name. -/
def Obligations.RecordsAreRead : Prop :=
  (∀ (n : Nat) (z : Int) (yes : Bool) (bytes : List Byte) (k : Nat),
    byte n = BitVec.ofNat 8 n ∧ flagByte yes = (if yes = true then 1 else 0) ∧
    be16 n = [BitVec.ofNat 8 (n / 256), BitVec.ofNat 8 n] ∧
    be16i z = [BitVec.ofInt 8 (z / 256), BitVec.ofInt 8 z] ∧
    be32 z = [BitVec.ofInt 8 (z / 16777216), BitVec.ofInt 8 (z / 65536), BitVec.ofInt 8 (z / 256),
      BitVec.ofInt 8 z] ∧
    at8 bytes k = bytes.getD k 0 ∧
    at16 bytes k = (bytes.getD k 0).toNat * 256 + (bytes.getD (k + 1) 0).toNat ∧
    at16i bytes k = (bytes.getD k 0).toInt * 256 + (bytes.getD (k + 1) 0).toNat) ∧
  (∀ (kind index : Byte) (u : UnitRef), unitOfBytes kind index = some u ↔ NamesUnit kind index (some u)) ∧
  (∀ x ∈ [(Engine.stopped, 0), (.cranking, 1), (.running, 2), (.fault, 3)], x.1.code = x.2) ∧
  (∀ x ∈ [(Breaker.open, 0), (.closed, 1)], x.1.code = x.2) ∧
  (∀ x ∈ [(Freshness.fresh, 0), (.late, 1), (.lost, 2)], x.1.code = x.2) ∧
  (∀ x ∈ [(GenState.notReady, 0), (.standby, 1), (.cranking, 2), (.resting, 3), (.warmup, 4), (.hot, 5),
    (.syncing, 6), (.online, 7), (.unloading, 8), (.cooldown, 9), (.stopping, 10), (.lockout, 11),
    (.unseen, 12)], x.1.code = x.2) ∧
  (∀ x ∈ [(PvState.off, 0), (.waiting, 1), (.on, 2)], x.1.code = x.2) ∧
  (∀ x ∈ [(FdrState.closed, 0), (.openOther, 1), (.shedPending, 2), (.shed, 3), (.restoring, 4),
    (.heldOpen, 5), (.stuck, 6)], x.1.code = x.2) ∧
  (∀ x ∈ [(StageCond.idle, 0), (.armed, 1), (.fired, 2)], x.1.code = x.2) ∧
  (∀ n : Fin 6, (ShedReason.stage n).code.toNat = n.val + 1) ∧
  (∀ x ∈ [(ShedReason.sourceLoss, 7), (.deficit, 8)], x.1.code = x.2) ∧
  (∀ (s : State) (src : Addr) (token x y z : Byte), s.CanTake →
    (x = 0 ∨ 9 < x.toNat ∨ 1 < y.toNat ∨ tableCount x.toNat ≤ z.toNat →
      exec (.readTable src token [x, y, z]) s =
        .next (s.join src 1 token ⟨.range, false, []⟩)) ∧
    (∀ b, 1 ≤ x.toNat → x.toNat ≤ 9 → z.toNat < tableCount x.toNat →
      (y = 0 ∧ b = s.bank.active) ∨ (y = 1 ∧ b = s.bank.shadow) →
      exec (.readTable src token [x, y, z]) s =
        .next (s.join src 1 token ⟨.done, false, [x, y, z] ++ b.readRecord x.toNat z.toNat⟩)) ∧
    (unitOfBytes x y = none → exec (.readUnit src token [x, y]) s =
      .next (s.join src 7 token ⟨.range, false, []⟩)) ∧
    (∀ u, unitOfBytes x y = some u → s.act.configured u = false →
      exec (.readUnit src token [x, y]) s =
        .next (s.join src 7 token ⟨.range, false, []⟩)) ∧
    (∀ u, unitOfBytes x y = some u → s.act.configured u = true →
      exec (.readUnit src token [x, y]) s =
          .next (s.join src 7 token ⟨.done, false, s.unitData u⟩) ∧
        (s.unitData u).length =
          (match u with
           | .genset _ => 30
           | .pv _ => 27
           | .feeder _ => 19
           | .busmeter => 16))) ∧
  (∀ (s : State) (u : UnitRef) (adr : Addr), s.act.stationOf u = some adr →
    ∃ (v last echo : List Byte) (before : Byte), s.unitData u =
      (match u with
       | .genset g =>
         [1, byte g.val, byte adr.val, (s.genRec g).fresh.code, flagByte (s.genRec g).vals.isNone]
         ++ v ++ last ++ echo
         ++ [byte (s.genRec g).nRunning, byte (s.genRec g).nStopped, byte (s.genRec g).nClosed,
             byte (s.genRec g).nOpen]
         ++ [(s.gen g).state.code, before, (s.gen g).order.code, (s.gen g).tag,
             byte (s.gen g).sendCount, flagByte (s.gen g).taken, flagByte (s.gen g).unanswered,
             byte (s.gen g).attempts, flagByte (s.gen g).mark,
             flagByte (decide ((s.gen g).minRun = .expired))]
       | .pv b =>
         [2, byte b.val, byte adr.val, (s.pvRec b).fresh.code, flagByte (s.pvRec b).vals.isNone] ++ v
         ++ [(s.pv b).state.code, (s.pv b).order.code]
         ++ (match (s.pv b).cap with | some c => be16 c | none => [0xFF, 0xFF])
         ++ [(s.pv b).tag, byte (s.pv b).sendCount, flagByte (s.pv b).unanswered]
         ++ (match (s.pv b).allotment with | some c => be16 c | none => [0xFF, 0xFF])
       | .feeder f =>
         [3, byte f.val, byte adr.val, (s.fdrRec f).fresh.code, flagByte (s.fdrRec f).vals.isNone] ++ v
         ++ [(s.fdr f).state.code, (s.fdr f).order.code, (s.fdr f).tag, byte (s.fdr f).sendCount,
             flagByte (s.fdr f).taken, flagByte (s.fdr f).unanswered,
             flagByte (s.fdr f).openConfirmed]
       | .busmeter =>
         [4, 0, byte adr.val, s.pic.bus.fresh.code, flagByte s.pic.bus.vals.isNone] ++ v
         ++ [byte s.pic.bus.nDead, byte s.pic.bus.nLive, byte s.pic.bus.nSettled]) ∧
      match u with
      | .genset g => v.length = 7 ∧ last.length = 2 ∧ echo.length = 2 ∧
          (∀ x, (s.genRec g).vals = some x →
            v = [x.engine.code, x.breaker.code, flagByte x.inAuto] ++ be16i x.rawOut ++ be16i x.out ∧
            echo = [x.echoCode, x.echoTag]) ∧
          (∀ x, (s.genRec g).lastLoaded = some x → last = be16 x) ∧
          ∀ x, (s.gen g).before = some x → before = x.code
      | .pv b => v.length = 13 ∧ ∀ x, (s.pvRec b).vals = some x →
          v = [flagByte x.connected] ++ be16i x.rawOut ++ be16i x.out ++ be16i x.rawAvail
            ++ be16i x.avail ++ [x.echoCode, x.echoTag] ++ be16 x.echoCap
      | .feeder f => v.length = 7 ∧ ∀ x, (s.fdrRec f).vals = some x →
          v = [x.breaker.code] ++ be16i x.rawLoad ++ be16i x.load ++ [x.echoCode, x.echoTag]
      | .busmeter => v.length = 8 ∧ ∀ x, s.pic.bus.vals = some x →
          v = be16i x.rawDev ++ be16i x.dev ++ be16 x.rawVolt ++ be16 x.volt) ∧
  ∀ (s : State) (src : Addr) (token : Byte), s.CanTake →
    (exec (.readBalance src token []) s =
        .next (s.join src 8 token ⟨.done, false, s.balanceData⟩) ∧
      s.balanceData.length = 151 ∧ (replySegments s.balanceData).length = 4 ∧
      ∀ (f : Figures) (stop : List Int), f = s.bal.fig →
        stop = (match f.stop with
          | none => [0, 0, 0, 0, 0]
          | some z => [z.c, z.x, z.d, z.r, z.m]) →
        s.balanceData =
          [byte (f.valid.toNat + 2 * f.startNeed.toNat + 4 * f.startPassed.toNat
            + 8 * f.lowLoad.toNat)]
          ++ [f.pG, f.pU, f.pS, f.pL, f.d, f.e, f.a, f.cOn, f.mOn, f.xMl, f.xStar, f.xCmd, f.dd,
              f.rReq, f.h, f.m, f.pPend].flatMap be32
          ++ [match s.bal.stopCand with | some g => byte g.val | none => 0xFF] ++ stop.flatMap be32
          ++ [match f.stopRequest with | some g => byte g.val | none => 0xFF]
          ++ be32 (f.deficit.getD 0) ++ [byte s.bal.startDwell] ++ be16 s.bal.stopDwell
          ++ [byte s.bal.deficitDwell] ++ be32 s.bal.rampBase
          ++ be16 s.cur.fractions[3] ++ be16 s.cur.fractions[2] ++ be16 s.cur.fractions[1]
          ++ be16 s.cur.fractions[0] ++ be32 s.cur.sum ++ be32 s.cur.u
          ++ pvBlocks.flatMap fun b =>
            match (s.pv b).allotment with | some x => be16 x | none => [0xFF, 0xFF]) ∧
    (exec (.readStack src token []) s =
        .next (s.join src 9 token ⟨.done, false, s.stackData⟩) ∧
      s.stackData.length = 22 + 11 * s.shed.stack.length ∧
      s.stackData =
        [byte s.shed.stack.length]
        ++ be32 (((s.shed.stack.filter fun e =>
            (s.fdr e.feeder).state == .shedPending).map (·.load)).sum : Nat)
        ++ [(s.shed.stages[0]).cond.code, (s.shed.stages[1]).cond.code,
            (s.shed.stages[2]).cond.code, (s.shed.stages[3]).cond.code,
            (s.shed.stages[4]).cond.code, (s.shed.stages[5]).cond.code]
        ++ [flagByte s.shed.ufActive] ++ be32 s.shed.shedEvent
        ++ [flagByte s.shed.dwellMet, flagByte s.shed.interval.isSome] ++ be32 s.shed.seconds
        ++ s.shed.stack.flatMap fun e =>
          [byte e.feeder.val, (s.fdr e.feeder).state.code] ++ be16 e.load ++ [e.reason.code]
          ++ be32 e.time
          ++ be16 ((e.load * (if s.act.coldTime ≤ s.shed.seconds - e.time then
              (s.fdrCfg e.feeder).coldFactor else 1000) + 999) / 1000))

/-- R187, R22: a flag that is raised is set and loses its seen mark; the notice slot is filled where the
flag was clear, replaced where it is pending, and left alone otherwise, an insertion of the notice in
progress going on without effect. R183, R188: READ STATUS answers 31 bytes, each with its place in 11.4, the
flags and seen marks as they stood, and marks every set flag seen; ACK NOTICES clears each flag that is in
the mask, set and seen. 11.2: the bit of each flag, and the codes of READ STATUS that no other statement
gives. Bytes without content are log entry 20, the own address and the seconds left log entry 27. -/
def Obligations.StatusMarksAndAcksClear : Prop :=
  (∀ x ∈ [(Flag.restarted, 0), (.portChange, 1), (.ufStageFired, 2), (.sourceLossShed, 3),
    (.deficitShed, 4), (.shedShort, 5), (.feederStuck, 6), (.startFailed, 7), (.lockout, 8),
    (.orderUnanswered, 9), (.islandStateChange, 10), (.bsAbandoned, 11), (.restoreSkipped, 12),
    (.commitDone, 13), (.storeInvalid, 14), (.modeChange, 15)],
    x.1.word = 1#16 <<< x.2 ∧ ∀ n : Summary, n.has x.1 = n.flags.getLsbD x.2) ∧
  (∀ x ∈ [(Phase.none, 0), (.deferred, 1), (.clearing, 2), (.waiting, 3)], x.1.code = x.2) ∧
  (∀ x ∈ [(ModeSource.directive, 0), (.line, 1)], x.1.code = x.2) ∧
  (∀ x ∈ [(PortCond.down, 0), (.up, 1), (.degraded, 2)], x.1.code = x.2) ∧
  (∀ x ∈ [(StoreCond.valid, 0), (.saving, 1), (.invalid, 2)], x.1.code = x.2) ∧
  (∀ k i, CommitResult.none.code = 0 ∧ CommitResult.done.code = 1 ∧ (CommitResult.dropped k i).code = 2) ∧
  (∀ (s t : State) (f : Flag) (txAfter : Tx → Tx), t = s.raise f →
    txAfter = (fun x => match x with
      | .inserting .notice g _ => .inserting .notice g true
      | .inserting r g stale => .inserting r g stale
      | .idle => .idle
      | .forwarding => .forwarding) →
    t.sum = ⟨s.sum.flags ||| f.word, s.sum.seen &&& ~~~f.word⟩ ∧
    (s.sum.has f = true → s.loop.notice = none → t.loop = s.loop) ∧
    (s.sum.has f = false ∨ s.loop.notice ≠ none →
      t.loop = { s.loop with
        portE := { s.loop.portE with tx := txAfter s.loop.portE.tx }
        portW := { s.loop.portW with tx := txAfter s.loop.portW.tx }
        notice := some ⟨s.act.super1, s.act.hopCount, s.loop.seqCounter, t.sum.flags, s.bs.island,
          s.mode.mode, s.newMarks⟩
        seqCounter := s.loop.seqCounter + 1 }) ∧
    { t with loop := s.loop, sum := s.sum } = s) ∧
  ∀ (s : State) (src : Addr) (token : Byte), s.CanTake →
    (exec (.readStatus src token []) s =
        .next ({ s with sum := ⟨s.sum.flags, s.sum.seen ||| s.sum.flags⟩ }.join src 5 token
          ⟨.done, false, s.statusData⟩) ∧
      s.statusData.length = 31 ∧
      ∃ left detail : List Byte, left.length = 2 ∧ detail.length = 2 ∧
        (∀ x, s.mode.lineTimer = some x → left = be16 ((x - s.clock) / 1000)) ∧
        (∀ k i, s.bank.last = .dropped k i → detail = [byte k, byte i]) ∧
        s.statusData =
          [byte s.loop.strap.val, s.bs.island.code, s.bs.phase.code,
           (match s.bs.stepPtr with | some n => byte n.val | none => 0xFF),
           flagByte s.bs.limit.isSome, s.mode.mode.code, s.mode.source.code,
           s.mode.dirMode.toMode.code]
          ++ left ++ [s.loop.portE.cond.code, s.loop.portW.cond.code]
          ++ be16 s.loop.portE.overflow ++ be16 s.loop.portW.overflow
          ++ be16 s.pic.roleMismatch.toNat ++ be16 s.pic.formCount.toNat
          ++ [byte s.dir.overrun, s.store.cond.code, flagByte s.bank.configured,
              flagByte s.bank.pending, s.bank.last.code]
          ++ detail ++ be16 s.sum.flags.toNat ++ be16 s.sum.seen.toNat) ∧
    ∀ hi lo : Byte, s.MayControl src →
      ∃ n : Summary, exec (.ackNotices src token [hi, lo]) s =
          .next ({ s with sum := n }.join src 6 token
            ⟨.done, false, be16 n.flags.toNat ++ be16 n.seen.toNat⟩) ∧
        ∀ i, i < 16 →
          n.flags.getLsbD i = (s.sum.flags.getLsbD i &&
            !((hi ++ lo).getLsbD i && s.sum.seen.getLsbD i)) ∧
          n.seen.getLsbD i = (s.sum.seen.getLsbD i &&
            !((hi ++ lo).getLsbD i && s.sum.flags.getLsbD i))

/-- R158: SET MODE, by its value, the source of the mode and the directive mode in force. R95, R142, R148,
R149: CLEAR LOCKOUT, BLACK START and ABANDON, and when they are answered STATE. -/
def Obligations.OperatorDirectivesAct : Prop :=
  (∀ v m, dirModeOf v = some m ↔ (v = 0 ∧ m = .auto) ∨ (v = 1 ∧ m = .hold)) ∧
  (DirMode.auto.toMode = .auto ∧ DirMode.hold.toMode = .hold) ∧
  (∀ (s : State) (src : Addr) (token v : Byte), s.CanTake → s.MayControl src →
    (v ≠ 0 → v ≠ 1 → exec (.setMode src token [v]) s =
      .next (s.join src 10 token ⟨.range, false, []⟩)) ∧
    (∀ m, dirModeOf v = some m → s.mode.source = .line → exec (.setMode src token [v]) s =
      .next (s.join src 10 token ⟨.local, false, []⟩)) ∧
    (∀ m, dirModeOf v = some m → s.mode.source = .directive → s.mode.dirMode = m →
      exec (.setMode src token [v]) s = .next (s.join src 10 token ⟨.done, false, []⟩)) ∧
    (∀ m, dirModeOf v = some m → s.mode.source = .directive → s.mode.dirMode ≠ m →
      ∃ u : State, exec (.setMode src token [v]) s =
          .next (u.join src 10 token ⟨.done, false, []⟩) ∧
        u.mode = { s.mode with mode := m.toMode, dirMode := m } ∧ u.bank = s.bank ∧
        u.pic = s.pic ∧ u.clock = s.clock ∧
        (s.ModeFollowsSource → u.sum.has .modeChange = true))) ∧
  ∀ (s : State) (src : Addr) (token x : Byte), s.CanTake → s.MayControl src → s.HandedOn →
    (8 ≤ x.toNat ∨ (∃ g : Fin 8, g.val = x.toNat ∧ (s.genCfg g).configured = false) →
      exec (.clearLockout src token [x]) s =
        .next (s.join src 11 token ⟨.range, false, []⟩)) ∧
    (∀ g : Fin 8, g.val = x.toNat → (s.genCfg g).configured = true →
      (if (s.gen g).state = .lockout then
        ∃ u : State, exec (.clearLockout src token [x]) s =
            .next (u.join src 11 token ⟨.done, false, []⟩) ∧ u.kept = s.kept ∧
          s.Rests u g .notReady ∧ (u.gen g).attempts = 0 ∧
          (s.bs.island ≠ .firstSource → s.OnlySet u g ∧ u.sum = s.sum)
      else exec (.clearLockout src token [x]) s =
        .next (s.join src 11 token ⟨.state, false, []⟩))) ∧
    (s.bs.island = .blackout → s.bs.phase = .waiting → s.mode.mode ≠ .commissioning →
      ∃ u : State, exec (.blackStart src token []) s =
          .next (u.join src 12 token ⟨.done, false, []⟩) ∧ s.EntersFirstSource u) ∧
    (s.bs.island = .abandoned →
      ∃ u : State, exec (.blackStart src token []) s =
          .next (u.join src 12 token ⟨.done, false, []⟩) ∧ s.EntersBlackout u) ∧
    (s.bs.island ≠ .abandoned →
      ¬ (s.bs.island = .blackout ∧ s.bs.phase = .waiting ∧ s.mode.mode ≠ .commissioning) →
      exec (.blackStart src token []) s =
        .next (s.join src 12 token ⟨.state, false, []⟩)) ∧
    (s.bs.island = .blackout ∨ s.bs.island = .firstSource ∨ s.bs.island = .energizing →
      ∃ u : State, exec (.abandon src token []) s =
          .next (u.join src 13 token ⟨.done, false, []⟩) ∧ s.EntersAbandoned u) ∧
    (s.bs.island ≠ .blackout → s.bs.island ≠ .firstSource → s.bs.island ≠ .energizing →
      exec (.abandon src token []) s = .next (s.join src 13 token ⟨.state, false, []⟩))

/-- Every invariant stated above holds after reset, and a power-up leaves the reset state as it is: it has the
values that the statements on power-up give, with ADDR[5:0] at 0, MNT released and a store never saved (log
entries 1 and 2). -/
def Obligations.ResetHasTheInvariants : Prop :=
  exec (.powerUpOrPinReset 0 true) State.reset = .next State.reset ∧
  State.reset.QueuesBounded ∧ State.reset.SeenAreSet ∧ State.reset.RampBaseSound ∧
  State.reset.ModeFollowsSource ∧ State.reset.HandedOn ∧ State.reset.StartsBounded ∧
  State.reset.StackLaw ∧ State.reset.OrdersSound ∧ State.reset.CommissioningLaw ∧
  State.reset.UnitsSound ∧ State.reset.SlotsSound ∧ ∀ g, State.reset.SendsNoStart g
end

