-- ==== Sys2Proof/Laws/Frame.lean ====
section
/-! SUPPORT. No operation of the jobs touches what `State.kept` holds: one lemma for each operation. A
claim about the clock, the picture, the mode, the banks, the store, the handler, the queue, the answers
or the port conditions passes through the jobs by these. -/

namespace Sys2Proof.Machine

/-! ## Updates of the blocks that are not kept -/

theorem kept_seq (s : State) (x : Sequencer) : State.kept { s with seq := x } = s.kept := rfl
theorem kept_shed (s : State) (x : Shedding) : State.kept { s with shed := x } = s.kept := rfl
theorem kept_bs (s : State) (x : BlackStart) : State.kept { s with bs := x } = s.kept := rfl
theorem kept_bal (s : State) (x : Balance) : State.kept { s with bal := x } = s.kept := rfl
theorem kept_cur (s : State) (x : Curtailment) : State.kept { s with cur := x } = s.kept := rfl
theorem kept_sum (s : State) (x : Summary) : State.kept { s with sum := x } = s.kept := rfl

/-- Acting on each index of a list keeps what each action keeps. -/
theorem forEach_kept {ι : Type} (f : ι → State → State) (h : ∀ i s, (f i s).kept = s.kept)
    (is : List ι) (s : State) : (forEach is f s).kept = s.kept := by
  induction is generalizing s with
  | nil => rfl
  | cons i is ih => exact (ih (f i s)).trans (h i s)

theorem startForward_kept (x : PortState) : x.startForward.kept = x.kept := by
  unfold PortState.startForward
  split <;> rfl

theorem abort_kept (x : PortState) : x.abort.kept = x.kept := by
  unfold PortState.abort
  split <;> first | rfl | exact startForward_kept _

@[simp] theorem State.modGen_kept (s : State) (g : Fin 8) (f : GenJob → GenJob) :
    (s.modGen g f).kept = s.kept := rfl

@[simp] theorem State.modPv_kept (s : State) (b : Fin 16) (f : PvJob → PvJob) :
    (s.modPv b f).kept = s.kept := rfl

@[simp] theorem State.modFdr_kept (s : State) (i : Fin 32) (f : FdrJob → FdrJob) :
    (s.modFdr i f).kept = s.kept := rfl

@[simp] theorem State.nextSeq_kept (s : State) :
    s.nextSeq.kept = s.kept := rfl

theorem cutOrder_kept (x : PortState) (sel : Addr → Byte → Bool) :
    (x.cutOrder sel).kept = x.kept := by
  unfold PortState.cutOrder
  split
  · split
    · exact abort_kept x
    · rfl
  · rfl

@[simp] theorem State.cutOrders_kept (s : State) (sel : Addr → Byte → Bool) :
    (s.cutOrders sel).kept = s.kept := by
  simp only [State.cutOrders, State.kept, cutOrder_kept]

@[simp] theorem State.place_kept (s : State) (a : Addr) (code : OrderCode) (tag : Byte)
    (cap : Nat) (cls : OrderClass) :
    (s.place a code tag cap cls).kept = s.kept := rfl

@[simp] theorem State.emptySlot_kept (s : State) (a : Addr) :
    (s.emptySlot a).kept = s.kept := rfl

@[simp] theorem State.placeFor_kept (s : State) (u : UnitRef) (code : OrderCode) (tag : Byte)
    (cap : Nat) (cls : OrderClass) :
    (s.placeFor u code tag cap cls).kept = s.kept := by
  unfold State.placeFor
  split <;> simp only [State.place_kept]

@[simp] theorem State.emptyFor_kept (s : State) (u : UnitRef) :
    (s.emptyFor u).kept = s.kept := by
  unfold State.emptyFor
  split <;> simp only [State.emptySlot_kept]

@[simp] theorem State.withdraw_kept (s : State) (codes : List OrderCode) :
    (s.withdraw codes).kept = s.kept := by
  unfold State.withdraw
  try dsimp only
  repeat' first
    | with_reducible rfl
    | simp only [State.cutOrders_kept, State.emptySlot_kept]
    | (refine forEach_kept _ (fun _ _ => ?_) _ _)
    | (refine Eq.trans (forEach_kept _ (fun _ _ => ?_) _ _) ?_)
    | split

@[simp] theorem State.fillNotice_kept (s : State) :
    s.fillNotice.kept = s.kept := rfl

@[simp] theorem State.raise_kept (s : State) (f : Flag) :
    (s.raise f).kept = s.kept := by
  simp only [State.raise, kept_sum, State.fillNotice_kept, apply_ite State.kept, ite_self]

@[simp] theorem State.fdrNone_kept (s : State) (i : Fin 32) :
    (s.fdrNone i).kept = s.kept := by
  simp only [State.fdrNone, State.modFdr_kept, State.emptyFor_kept]

@[simp] theorem State.fdrOrder_kept (s : State) (i : Fin 32) (code : OrderCode) (cls : OrderClass) :
    (s.fdrOrder i code cls).kept = s.kept := by
  simp only [State.fdrOrder, State.modFdr_kept, State.placeFor_kept]

@[simp] theorem State.setFdrState_kept (s : State) (i : Fin 32) (x : FdrState) :
    (s.setFdrState i x).kept = s.kept := rfl

@[simp] theorem State.stopConfirm_kept (s : State) (i : Fin 32) :
    (s.stopConfirm i).kept = s.kept := rfl

@[simp] theorem State.startConfirm_kept (s : State) (i : Fin 32) :
    (s.startConfirm i).kept = s.kept := rfl

@[simp] theorem State.unstack_kept (s : State) (i : Fin 32) :
    (s.unstack i).kept = s.kept := rfl

@[simp] theorem State.takeFeeder_kept (s : State) (i : Fin 32) (reason : ShedReason) :
    (s.takeFeeder i reason).kept = s.kept := by
  simp only [State.takeFeeder, kept_shed, State.fdrOrder_kept, State.setFdrState_kept, State.startConfirm_kept]

@[simp] theorem State.endWalk_kept (s : State) (reason : ShedReason) (short took : Bool) :
    (s.endWalk reason short took).kept = s.kept := by
  simp only [State.endWalk, State.raise_kept, apply_ite State.kept, ite_self]

@[simp] theorem walk_kept (q : Int) (reason : ShedReason) (is : List (Fin 32)) (sum : Int)
    (took : Bool) (s : State) : (walk q reason is sum took s).kept = s.kept := by
  induction is generalizing sum took s with
  | nil => simp only [walk, State.endWalk_kept]
  | cons i is ih =>
    simp only [walk]
    split
    · simp only [State.endWalk_kept]
    · split
      · rw [ih, State.takeFeeder_kept]
      · rw [ih]

@[simp] theorem State.demand_kept (s : State) (q : Int) (reason : ShedReason) :
    (s.demand q reason).kept = s.kept := by
  simp only [State.demand, walk_kept]

@[simp] theorem State.reducedDemand_kept (s : State) (q : Int) (reason : ShedReason) :
    (s.reducedDemand q reason).kept = s.kept := by
  simp only [State.reducedDemand, State.demand_kept, apply_ite State.kept, ite_self]

@[simp] theorem State.fireStage_kept (s : State) (n : Fin 6) :
    (s.fireStage n).kept = s.kept := by
  simp only [State.fireStage, kept_shed, State.raise_kept, State.demand_kept, apply_ite State.kept, ite_self]

@[simp] theorem State.endEvent_kept (s : State) :
    s.endEvent.kept = s.kept := rfl

@[simp] theorem State.endUf_kept (s : State) :
    s.endUf.kept = s.kept := rfl

@[simp] theorem State.judgeStages_kept (s : State) (d : Int) :
    (s.judgeStages d).kept = s.kept := rfl

@[simp] theorem State.beginEvent_kept (s : State) :
    s.beginEvent.kept = s.kept := rfl

@[simp] theorem State.judgeRecovery_kept (s : State) (d : Int) :
    (s.judgeRecovery d).kept = s.kept := by
  unfold State.judgeRecovery
  repeat' first
    | with_reducible rfl
    | simp only [kept_shed, State.endEvent_kept]
    | split

@[simp] theorem State.judgeDwell_kept (s : State) (d : Int) :
    (s.judgeDwell d).kept = s.kept := by
  simp only [State.judgeDwell, kept_shed, apply_ite State.kept, ite_self]

@[simp] theorem State.beginRestore_kept (s : State) (i : Fin 32) :
    (s.beginRestore i).kept = s.kept := by
  simp only [State.beginRestore, kept_shed, State.fdrOrder_kept, State.setFdrState_kept, State.startConfirm_kept]

@[simp] theorem State.judgeRestore_kept (s : State) :
    s.judgeRestore.kept = s.kept := by
  unfold State.judgeRestore
  repeat' first
    | with_reducible rfl
    | simp only [State.beginRestore_kept]
    | split

@[simp] theorem State.shedBusTap_kept (s : State) (d : Int) :
    (s.shedBusTap d).kept = s.kept := by
  unfold State.shedBusTap
  try dsimp only
  repeat' first
    | with_reducible rfl
    | simp only [State.fireStage_kept, State.judgeStages_kept, State.beginEvent_kept,
    State.judgeRecovery_kept, State.judgeDwell_kept, State.judgeRestore_kept]
    | (refine forEach_kept _ (fun _ _ => ?_) _ _)
    | (refine Eq.trans (forEach_kept _ (fun _ _ => ?_) _ _) ?_)
    | split

@[simp] theorem State.shedBusLate_kept (s : State) :
    s.shedBusLate.kept = s.kept := rfl

@[simp] theorem State.shedBusLost_kept (s : State) :
    s.shedBusLost.kept = s.kept := rfl

@[simp] theorem State.externalClose_kept (s : State) (i : Fin 32) :
    (s.externalClose i).kept = s.kept := by
  simp only [State.externalClose, State.raise_kept, State.fdrNone_kept, State.setFdrState_kept]

@[simp] theorem State.fdrShowsOpen_kept (s : State) (i : Fin 32) :
    (s.fdrShowsOpen i).kept = s.kept := by
  unfold State.fdrShowsOpen
  split <;> simp only [State.modFdr_kept, State.setFdrState_kept, State.stopConfirm_kept]

@[simp] theorem State.fdrShowsClosed_kept (s : State) (i : Fin 32) :
    (s.fdrShowsClosed i).kept = s.kept := by
  unfold State.fdrShowsClosed
  repeat' first
    | with_reducible rfl
    | simp only [State.fdrNone_kept, State.setFdrState_kept, State.stopConfirm_kept,
    State.unstack_kept, State.externalClose_kept]
    | split

@[simp] theorem State.fdrEcho_kept (s : State) (i : Fin 32) (v : FdrValues) :
    (s.fdrEcho i v).kept = s.kept := by
  simp only [State.fdrEcho, State.modFdr_kept, State.placeFor_kept, State.raise_kept, apply_ite State.kept, ite_self]

@[simp] theorem State.shedFdrTap_kept (s : State) (i : Fin 32) :
    (s.shedFdrTap i).kept = s.kept := by
  unfold State.shedFdrTap
  repeat' first
    | with_reducible rfl
    | simp only [State.fdrShowsOpen_kept, State.fdrShowsClosed_kept, State.fdrEcho_kept]
    | split

@[simp] theorem State.stick_kept (s : State) (i : Fin 32) :
    (s.stick i).kept = s.kept := by
  simp only [State.stick, State.raise_kept, State.fdrNone_kept, State.setFdrState_kept, State.stopConfirm_kept]

@[simp] theorem State.reShed_kept (s : State) (e : StackEntry) :
    (s.reShed e).kept = s.kept := by
  simp only [State.reShed, kept_shed, State.demand_kept, apply_ite State.kept, ite_self]

@[simp] theorem State.confirmExpiry_kept (s : State) (i : Fin 32) :
    (s.confirmExpiry i).kept = s.kept := by
  unfold State.confirmExpiry
  repeat' first
    | with_reducible rfl
    | simp only [State.stopConfirm_kept, State.unstack_kept, State.stick_kept, State.reShed_kept]
    | split

@[simp] theorem State.withdrawClose_kept (s : State) (i : Fin 32) :
    (s.withdrawClose i).kept = s.kept := by
  unfold State.withdrawClose
  repeat' first
    | with_reducible rfl
    | simp only [State.fdrNone_kept, State.setFdrState_kept, State.stopConfirm_kept]
    | split

@[simp] theorem State.shedEnterCommissioning_kept (s : State) :
    s.shedEnterCommissioning.kept = s.kept := 
  (forEach_kept _ (fun i s => State.withdrawClose_kept s i) _ _).trans (State.withdraw_kept _ _)

@[simp] theorem State.discardEntry_kept (s : State) (e : StackEntry) :
    (s.discardEntry e).kept = s.kept := by
  simp only [State.discardEntry, State.fdrNone_kept, State.setFdrState_kept, State.stopConfirm_kept]

@[simp] theorem State.emptyStack_kept (s : State) :
    s.emptyStack.kept = s.kept := by
  unfold State.emptyStack
  try dsimp only
  repeat' first
    | with_reducible rfl
    | simp only [kept_shed, State.discardEntry_kept]
    | (refine forEach_kept _ (fun _ _ => ?_) _ _)

@[simp] theorem State.holdOpen_kept (s : State) (i : Fin 32) :
    (s.holdOpen i).kept = s.kept := by
  simp only [State.holdOpen, State.modFdr_kept, State.fdrOrder_kept, State.setFdrState_kept, State.stopConfirm_kept]

@[simp] theorem State.shedClearDown_kept (s : State) :
    s.shedClearDown.kept = s.kept := by
  unfold State.shedClearDown
  try dsimp only
  repeat' first
    | with_reducible rfl
    | simp only [State.emptyStack_kept, State.holdOpen_kept]
    | (refine forEach_kept _ (fun _ _ => ?_) _ _)
    | (refine Eq.trans (forEach_kept _ (fun _ _ => ?_) _ _) ?_)
    | split

@[simp] theorem State.shedSettle_kept (s : State) :
    s.shedSettle.kept = s.kept := by
  unfold State.shedSettle
  try dsimp only
  repeat' first
    | with_reducible rfl
    | simp only [State.raise_kept, State.fdrNone_kept, State.setFdrState_kept]
    | (refine forEach_kept _ (fun _ _ => ?_) _ _)
    | (refine Eq.trans (forEach_kept _ (fun _ _ => ?_) _ _) ?_)
    | split

@[simp] theorem State.shedStepClose_kept (s : State) (is : List (Fin 32)) :
    (s.shedStepClose is).kept = s.kept := by
  unfold State.shedStepClose
  try dsimp only
  repeat' first
    | with_reducible rfl
    | simp only [State.fdrOrder_kept, State.startConfirm_kept]
    | (refine forEach_kept _ (fun _ _ => ?_) _ _)
    | (refine Eq.trans (forEach_kept _ (fun _ _ => ?_) _ _) ?_)
    | split

@[simp] theorem State.shedRelease_kept (s : State) :
    s.shedRelease.kept = s.kept := by
  unfold State.shedRelease
  try dsimp only
  repeat' first
    | with_reducible rfl
    | simp only [State.fdrNone_kept, State.setFdrState_kept, State.stopConfirm_kept]
    | (refine forEach_kept _ (fun _ _ => ?_) _ _)
    | (refine Eq.trans (forEach_kept _ (fun _ _ => ?_) _ _) ?_)
    | split

@[simp] theorem State.shedAdopt_kept (s : State) :
    s.shedAdopt.kept = s.kept := by
  unfold State.shedAdopt
  try dsimp only
  repeat' first
    | with_reducible rfl
    | simp only [State.fdrNone_kept, State.setFdrState_kept, State.stopConfirm_kept,
    State.emptyStack_kept]
    | (refine forEach_kept _ (fun _ _ => ?_) _ _)
    | (refine Eq.trans (forEach_kept _ (fun _ _ => ?_) _ _) ?_)
    | split

@[simp] theorem State.pvNone_kept (s : State) (b : Fin 16) :
    (s.pvNone b).kept = s.kept := by
  simp only [State.pvNone, State.modPv_kept, State.emptyFor_kept]

@[simp] theorem State.pvOrder_kept (s : State) (b : Fin 16) (code : OrderCode) (cap : Option Nat)
    (cls : OrderClass) :
    (s.pvOrder b code cap cls).kept = s.kept := by
  simp only [State.pvOrder, State.modPv_kept, State.placeFor_kept]

@[simp] theorem State.setPvState_kept (s : State) (b : Fin 16) (x : PvState) :
    (s.setPvState b x).kept = s.kept := rfl

@[simp] theorem State.pvConnected_kept (s : State) (b : Fin 16) (connected : Bool) :
    (s.pvConnected b connected).kept = s.kept := by
  unfold State.pvConnected
  split <;> simp only [State.modPv_kept, State.pvNone_kept, State.setPvState_kept]

@[simp] theorem State.pvPermit_kept (s : State) (b : Fin 16) :
    (s.pvPermit b).kept = s.kept := by
  simp only [State.pvPermit, State.pvOrder_kept, State.setPvState_kept]

@[simp] theorem State.pvLatched_kept (s : State) (b : Fin 16) (v : PvValues) :
    (s.pvLatched b v).kept = s.kept := by
  simp only [State.pvLatched, State.pvPermit_kept, apply_ite State.kept, ite_self]

@[simp] theorem State.pvEcho_kept (s : State) (b : Fin 16) (v : PvValues) :
    (s.pvEcho b v).kept = s.kept := by
  simp only [State.pvEcho, State.modPv_kept, State.placeFor_kept, State.raise_kept, apply_ite State.kept, ite_self]

@[simp] theorem State.curTap_kept (s : State) (b : Fin 16) :
    (s.curTap b).kept = s.kept := by
  unfold State.curTap
  repeat' first
    | with_reducible rfl
    | simp only [State.pvConnected_kept, State.pvLatched_kept, State.pvEcho_kept]
    | split

@[simp] theorem State.pvClearDown_kept (s : State) :
    s.pvClearDown.kept = s.kept := by
  unfold State.pvClearDown
  try dsimp only
  repeat' first
    | with_reducible rfl
    | simp only [State.pvOrder_kept, State.setPvState_kept]
    | (refine forEach_kept _ (fun _ _ => ?_) _ _)
    | (refine Eq.trans (forEach_kept _ (fun _ _ => ?_) _ _) ?_)
    | split

@[simp] theorem State.pvPermitRequest_kept (s : State) (b : Fin 16) :
    (s.pvPermitRequest b).kept = s.kept := by
  simp only [State.pvPermitRequest, State.pvPermit_kept, apply_ite State.kept, ite_self]

@[simp] theorem State.pvAdopt_kept (s : State) :
    s.pvAdopt.kept = s.kept := by
  unfold State.pvAdopt
  try dsimp only
  repeat' first
    | with_reducible rfl
    | simp only [State.pvNone_kept, State.setPvState_kept]
    | (refine forEach_kept _ (fun _ _ => ?_) _ _)
    | (refine Eq.trans (forEach_kept _ (fun _ _ => ?_) _ _) ?_)
    | split

@[simp] theorem State.applyTarget_kept (s : State) (f : Fractions) (b : Fin 16) :
    (s.applyTarget f b).kept = s.kept := by
  simp only [State.applyTarget, State.pvOrder_kept, apply_ite State.kept, ite_self]

@[simp] theorem State.recordAllocation_kept (s : State) (f : Fractions) (a : Int) :
    (s.recordAllocation f a).kept = s.kept := by
  unfold State.recordAllocation
  try dsimp only
  repeat' first
    | with_reducible rfl
    | simp only [kept_cur, State.modPv_kept]
    | (refine forEach_kept _ (fun _ _ => ?_) _ _)

@[simp] theorem State.allocate_kept (s : State) (xCmd a : Int) :
    (s.allocate xCmd a).kept = s.kept := by
  have each (f : Fractions) (b : Fin 16) (t : State) :
      State.kept (if s.inScmd b then t.applyTarget f b else t) = t.kept := by
    simp only [State.applyTarget_kept, apply_ite State.kept, ite_self]
  unfold State.allocate
  dsimp only
  rw [apply_ite State.kept, forEach_kept _ (each _), State.recordAllocation_kept, ite_self]

@[simp] theorem State.uncap_kept (s : State) (b : Fin 16) :
    (s.uncap b).kept = s.kept := by
  simp only [State.uncap, State.pvOrder_kept, apply_ite State.kept, ite_self]

@[simp] theorem State.sourceLossRelease_kept (s : State) :
    s.sourceLossRelease.kept = s.kept := by
  unfold State.sourceLossRelease
  try dsimp only
  repeat' first
    | with_reducible rfl
    | simp only [kept_bal, State.uncap_kept]
    | (refine forEach_kept _ (fun _ _ => ?_) _ _)
    | (refine Eq.trans (forEach_kept _ (fun _ _ => ?_) _ _) ?_)
    | split

@[simp] theorem State.curEnterCommissioning_kept (s : State) :
    s.curEnterCommissioning.kept = s.kept := by
  simp only [State.curEnterCommissioning, State.withdraw_kept]

@[simp] theorem State.genNone_kept (s : State) (g : Fin 8) :
    (s.genNone g).kept = s.kept := by
  simp only [State.genNone, State.modGen_kept, State.emptyFor_kept]

@[simp] theorem State.genNewOrder_kept (s : State) (g : Fin 8) (code : OrderCode)
    (cls : OrderClass) :
    (s.genNewOrder g code cls).kept = s.kept := by
  simp only [State.genNewOrder, State.modGen_kept, State.placeFor_kept, State.emptyFor_kept, apply_ite State.kept, ite_self]

@[simp] theorem State.genOrder_kept (s : State) (g : Fin 8) (code : OrderCode) :
    (s.genOrder g code).kept = s.kept := by
  simp only [State.genOrder, State.genNewOrder_kept, apply_ite State.kept, ite_self]

@[simp] theorem State.setGenState_kept (s : State) (g : Fin 8) (x : GenState) (keep : Bool) :
    (s.setGenState g x keep).kept = s.kept := by
  simp only [State.setGenState, kept_seq, State.modGen_kept, apply_ite State.kept, ite_self]

@[simp] theorem State.startSup_kept (s : State) (g : Fin 8) (sec : Nat) :
    (s.startSup g sec).kept = s.kept := rfl

@[simp] theorem State.stopSup_kept (s : State) (g : Fin 8) :
    (s.stopSup g).kept = s.kept := rfl

@[simp] theorem State.enterNotReady_kept (s : State) (g : Fin 8) :
    (s.enterNotReady g).kept = s.kept := by
  simp only [State.enterNotReady, State.genNone_kept, State.setGenState_kept]

@[simp] theorem State.enterStandby_kept (s : State) (g : Fin 8) :
    (s.enterStandby g).kept = s.kept := by
  simp only [State.enterStandby, State.genNone_kept, State.setGenState_kept]

@[simp] theorem State.enterStopping_kept (s : State) (g : Fin 8) :
    (s.enterStopping g).kept = s.kept := by
  simp only [State.enterStopping, State.genOrder_kept, State.setGenState_kept, State.startSup_kept]

@[simp] theorem State.startCool_kept (s : State) (g : Fin 8) :
    (s.startCool g).kept = s.kept := by
  simp only [State.startCool, State.startSup_kept, State.enterStopping_kept, apply_ite State.kept, ite_self]

@[simp] theorem State.enterCooldown_kept (s : State) (g : Fin 8) :
    (s.enterCooldown g).kept = s.kept := by
  simp only [State.enterCooldown, State.genOrder_kept, State.setGenState_kept, State.startCool_kept, apply_ite State.kept, ite_self]

@[simp] theorem State.enterHot_kept (s : State) (g : Fin 8) :
    (s.enterHot g).kept = s.kept := by
  simp only [State.enterHot, State.genNone_kept, State.setGenState_kept, State.startSup_kept, State.enterCooldown_kept, apply_ite State.kept, ite_self]

@[simp] theorem State.enterSyncing_kept (s : State) (g : Fin 8) (dead : Bool) :
    (s.enterSyncing g dead).kept = s.kept := by
  simp only [State.enterSyncing, State.genOrder_kept, State.setGenState_kept, State.startSup_kept]

@[simp] theorem State.enterResting_kept (s : State) (g : Fin 8) :
    (s.enterResting g).kept = s.kept := by
  simp only [State.enterResting, State.genOrder_kept, State.setGenState_kept, State.startSup_kept]

@[simp] theorem State.enterCranking_kept (s : State) (g : Fin 8) (n : Nat) :
    (s.enterCranking g n).kept = s.kept := by
  simp only [State.enterCranking, State.modGen_kept, State.genOrder_kept, State.setGenState_kept, State.startSup_kept]

@[simp] theorem State.enterLockout_kept (s : State) (g : Fin 8) (code : OrderCode) :
    (s.enterLockout g code).kept = s.kept := by
  unfold State.enterLockout
  repeat' first
    | with_reducible rfl
    | simp only [State.cutOrders_kept, State.raise_kept, State.genOrder_kept,
    State.setGenState_kept]
    | split

@[simp] theorem State.failedAttempt_kept (s : State) (g : Fin 8) :
    (s.failedAttempt g).kept = s.kept := by
  simp only [State.failedAttempt, State.raise_kept, State.enterStopping_kept, State.enterResting_kept, State.enterLockout_kept, apply_ite State.kept, ite_self]

@[simp] theorem State.failedClose_kept (s : State) (g : Fin 8) :
    (s.failedClose g).kept = s.kept := by
  simp only [State.failedClose, State.raise_kept, State.enterCooldown_kept, State.enterLockout_kept, apply_ite State.kept, ite_self]

@[simp] theorem State.warmDone_kept (s : State) (g : Fin 8) :
    (s.warmDone g).kept = s.kept := by
  simp only [State.warmDone, State.enterHot_kept, State.enterSyncing_kept, State.failedAttempt_kept, apply_ite State.kept, ite_self]

@[simp] theorem State.enterWarmup_kept (s : State) (g : Fin 8) :
    (s.enterWarmup g).kept = s.kept := by
  simp only [State.enterWarmup, State.genNone_kept, State.setGenState_kept, State.startSup_kept, State.warmDone_kept, apply_ite State.kept, ite_self]

@[simp] theorem State.enterOnline_kept (s : State) (g : Fin 8) :
    (s.enterOnline g).kept = s.kept := by
  simp only [State.enterOnline, State.modGen_kept, State.genNone_kept, State.setGenState_kept]

@[simp] theorem State.takeStart_kept (s : State) (g : Fin 8) (dead : Bool) :
    (s.takeStart g dead).kept = s.kept := by
  simp only [State.takeStart, State.modGen_kept, State.enterSyncing_kept, State.enterCranking_kept, apply_ite State.kept, ite_self]

@[simp] theorem State.startRequest_kept (s : State) (named : Option (Fin 8)) (dead : Bool) :
    (s.startRequest named dead).kept = s.kept := by
  unfold State.startRequest
  repeat' first
    | with_reducible rfl
    | simp only [State.takeStart_kept]
    | split

@[simp] theorem State.stopSet_kept (s : State) (g : Fin 8) :
    (s.stopSet g).kept = s.kept := by
  simp only [State.stopSet, State.genOrder_kept, State.setGenState_kept, State.startSup_kept, apply_ite State.kept, ite_self]

@[simp] theorem State.roundCompleteOf_kept (s : State) (m : Int) (g : Fin 8) :
    (s.roundCompleteOf m g).kept = s.kept := by
  unfold State.roundCompleteOf
  repeat' first
    | with_reducible rfl
    | simp only [State.genOrder_kept, State.setGenState_kept]
    | split

@[simp] theorem State.roundComplete_kept (s : State) (m : Int) :
    (s.roundComplete m).kept = s.kept := by
  unfold State.roundComplete
  try dsimp only
  repeat' first
    | with_reducible rfl
    | simp only [State.roundCompleteOf_kept]
    | (refine forEach_kept _ (fun _ _ => ?_) _ _)

@[simp] theorem State.sourceLoss_kept (s : State) (g : Fin 8) (load : Nat) :
    (s.sourceLoss g load).kept = s.kept := by
  simp only [State.sourceLoss, State.raise_kept, State.reducedDemand_kept, State.sourceLossRelease_kept, apply_ite State.kept, ite_self]

@[simp] theorem State.tripEntry_kept (s : State) (g : Fin 8) (v : GenValues) :
    (s.tripEntry g v).kept = s.kept := by
  simp only [State.tripEntry, State.enterNotReady_kept, State.enterCooldown_kept, apply_ite State.kept, ite_self]

@[simp] theorem State.trip_kept (s : State) (g : Fin 8) (v : GenValues) :
    (s.trip g v).kept = s.kept := by
  simp only [State.trip, State.enterCooldown_kept, State.sourceLoss_kept, State.tripEntry_kept, apply_ite State.kept, ite_self]

@[simp] theorem State.stoppedEntry_kept (s : State) (g : Fin 8) (v : GenValues) :
    (s.stoppedEntry g v).kept = s.kept := by
  simp only [State.stoppedEntry, State.enterNotReady_kept, State.enterStandby_kept, apply_ite State.kept, ite_self]

@[simp] theorem State.unseenReturn_kept (s : State) (g : Fin 8) (v : GenValues) :
    (s.unseenReturn g v).kept = s.kept := by
  unfold State.unseenReturn
  repeat' first
    | with_reducible rfl
    | simp only [State.setGenState_kept, State.startSup_kept, State.tripEntry_kept]
    | split

@[simp] theorem State.genTransition_kept (s : State) (g : Fin 8) (v : GenValues) :
    (s.genTransition g v).kept = s.kept := by
  unfold State.genTransition
  repeat' first
    | with_reducible rfl
    | simp only [State.genOrder_kept, State.stopSup_kept, State.enterNotReady_kept,
    State.enterStandby_kept, State.startCool_kept, State.enterCooldown_kept,
    State.failedAttempt_kept, State.failedClose_kept, State.enterWarmup_kept,
    State.enterOnline_kept, State.trip_kept, State.stoppedEntry_kept, State.unseenReturn_kept]
    | split

@[simp] theorem State.unansweredEffect_kept (s : State) (g : Fin 8) :
    (s.unansweredEffect g).kept = s.kept := by
  unfold State.unansweredEffect
  split <;> simp only [State.genNone_kept, State.enterNotReady_kept, State.failedAttempt_kept, State.failedClose_kept]

@[simp] theorem State.genEcho_kept (s : State) (g : Fin 8) (v : GenValues) :
    (s.genEcho g v).kept = s.kept := by
  simp only [State.genEcho, State.modGen_kept, State.placeFor_kept, State.raise_kept, State.unansweredEffect_kept, apply_ite State.kept, ite_self]

@[simp] theorem State.genGoesLost_kept (s : State) (g : Fin 8) :
    (s.genGoesLost g).kept = s.kept := by
  unfold State.genGoesLost
  split <;> simp only [State.modGen_kept, State.setGenState_kept, State.enterNotReady_kept]

@[simp] theorem State.seqBusTap_kept (s : State) :
    s.seqBusTap.kept = s.kept := by
  unfold State.seqBusTap
  try dsimp only
  repeat' first
    | with_reducible rfl
    | simp only [State.genOrder_kept]
    | (refine forEach_kept _ (fun _ _ => ?_) _ _)
    | (refine Eq.trans (forEach_kept _ (fun _ _ => ?_) _ _) ?_)
    | split

@[simp] theorem State.restDone_kept (s : State) (g : Fin 8) (wanted : Bool) :
    (s.restDone g wanted).kept = s.kept := by
  simp only [State.restDone, State.enterStandby_kept, State.enterCranking_kept, apply_ite State.kept, ite_self]

@[simp] theorem State.unloadDone_kept (s : State) (g : Fin 8) :
    (s.unloadDone g).kept = s.kept := by
  simp only [State.unloadDone, State.genOrder_kept, State.stopSup_kept, apply_ite State.kept, ite_self]

@[simp] theorem State.seqEnterCommissioning_kept (s : State) :
    s.seqEnterCommissioning.kept = s.kept := by
  simp only [State.seqEnterCommissioning, State.withdraw_kept]

@[simp] theorem State.clearLockout_kept (s : State) (g : Fin 8) :
    (s.clearLockout g).kept = s.kept := by
  simp only [State.clearLockout, State.modGen_kept, State.enterNotReady_kept]

@[simp] theorem State.releaseLockouts_kept (s : State) :
    s.releaseLockouts.kept = s.kept := by
  unfold State.releaseLockouts
  try dsimp only
  repeat' first
    | with_reducible rfl
    | simp only [State.clearLockout_kept]
    | (refine forEach_kept _ (fun _ _ => ?_) _ _)
    | (refine Eq.trans (forEach_kept _ (fun _ _ => ?_) _ _) ?_)
    | split

@[simp] theorem State.genClearDown_kept (s : State) :
    s.genClearDown.kept = s.kept := by
  unfold State.genClearDown
  try dsimp only
  repeat' first
    | with_reducible rfl
    | simp only [State.genNewOrder_kept, State.enterHot_kept]
    | (refine forEach_kept _ (fun _ _ => ?_) _ _)
    | (refine Eq.trans (forEach_kept _ (fun _ _ => ?_) _ _) ?_)
    | split

@[simp] theorem State.genAbandon_kept (s : State) :
    s.genAbandon.kept = s.kept := by
  unfold State.genAbandon
  try dsimp only
  repeat' first
    | with_reducible rfl
    | simp only [State.modGen_kept, State.enterHot_kept]
    | (refine forEach_kept _ (fun _ _ => ?_) _ _)
    | (refine Eq.trans (forEach_kept _ (fun _ _ => ?_) _ _) ?_)
    | split

@[simp] theorem State.genSettled_kept (s : State) :
    s.genSettled.kept = s.kept := by
  unfold State.genSettled
  try dsimp only
  repeat' first
    | with_reducible rfl
    | simp only [State.modGen_kept]
    | (refine forEach_kept _ (fun _ _ => ?_) _ _)
    | (refine Eq.trans (forEach_kept _ (fun _ _ => ?_) _ _) ?_)
    | split

@[simp] theorem State.energizeFailure_kept (s : State) :
    s.energizeFailure.kept = s.kept := by
  unfold State.energizeFailure
  try dsimp only
  repeat' first
    | with_reducible rfl
    | simp only [State.failedClose_kept]
    | (refine forEach_kept _ (fun _ _ => ?_) _ _)
    | (refine Eq.trans (forEach_kept _ (fun _ _ => ?_) _ _) ?_)
    | split

@[simp] theorem State.adoptGen_kept (s : State) (g : Fin 8) :
    (s.adoptGen g).kept = s.kept := by
  unfold State.adoptGen
  repeat' first
    | with_reducible rfl
    | simp only [State.modGen_kept, State.genNone_kept, State.setGenState_kept,
    State.enterNotReady_kept, State.enterStandby_kept, State.enterStopping_kept,
    State.enterCooldown_kept]
    | split

@[simp] theorem State.genAdopt_kept (s : State) :
    s.genAdopt.kept = s.kept := by
  unfold State.genAdopt
  try dsimp only
  repeat' first
    | with_reducible rfl
    | simp only [State.adoptGen_kept]
    | (refine forEach_kept _ (fun _ _ => ?_) _ _)
    | (refine Eq.trans (forEach_kept _ (fun _ _ => ?_) _ _) ?_)
    | split

@[simp] theorem State.endStart_kept (s : State) (g : Fin 8) :
    (s.endStart g).kept = s.kept := by
  unfold State.endStart
  split <;> simp only [State.enterStopping_kept, State.enterHot_kept]

@[simp] theorem endStarts_kept (n : Nat) (s : State) : (endStarts n s).kept = s.kept := by
  induction n generalizing s with
  | zero => rfl
  | succ n ih =>
    simp only [endStarts]
    split
    · rfl
    · split
      · rfl
      · rw [ih, State.endStart_kept]

@[simp] theorem State.modBs_kept (s : State) (f : BlackStart → BlackStart) :
    (s.modBs f).kept = s.kept := rfl

@[simp] theorem State.setIsland_kept (s : State) (x : Island) :
    (s.setIsland x).kept = s.kept := by
  simp only [State.setIsland, State.raise_kept, State.modBs_kept]

@[simp] theorem State.enterAbandoned_kept (s : State) :
    s.enterAbandoned.kept = s.kept := by
  simp only [State.enterAbandoned, State.raise_kept, State.endUf_kept, State.genAbandon_kept, State.modBs_kept, State.setIsland_kept]

@[simp] theorem State.chooseFirstSource_kept (s : State) :
    s.chooseFirstSource.kept = s.kept := by
  unfold State.chooseFirstSource
  repeat' first
    | with_reducible rfl
    | simp only [State.startRequest_kept]
    | split

@[simp] theorem State.enterFirstSource_kept (s : State) :
    s.enterFirstSource.kept = s.kept := by
  simp only [State.enterFirstSource, State.endUf_kept, State.setIsland_kept, State.enterAbandoned_kept, State.chooseFirstSource_kept, apply_ite State.kept, ite_self]

@[simp] theorem State.applyWaiting_kept (s : State) :
    s.applyWaiting.kept = s.kept := by
  simp only [State.applyWaiting, State.enterFirstSource_kept, apply_ite State.kept, ite_self]

@[simp] theorem State.completeClearDown_kept (s : State) :
    s.completeClearDown.kept = s.kept := by
  simp only [State.completeClearDown, State.shedSettle_kept, State.modBs_kept, State.applyWaiting_kept]

@[simp] theorem State.judgeSettled_kept (s : State) :
    s.judgeSettled.kept = s.kept := by
  simp only [State.judgeSettled, State.completeClearDown_kept, apply_ite State.kept, ite_self]

@[simp] theorem State.orderClearDown_kept (s : State) :
    s.orderClearDown.kept = s.kept := by
  simp only [State.orderClearDown, State.shedClearDown_kept, State.pvClearDown_kept, State.genClearDown_kept, State.modBs_kept, State.judgeSettled_kept]

@[simp] theorem State.enterBlackout_kept (s : State) :
    s.enterBlackout.kept = s.kept := by
  simp only [State.enterBlackout, State.endUf_kept, State.emptyStack_kept, State.modBs_kept, State.setIsland_kept, State.orderClearDown_kept, apply_ite State.kept, ite_self]

@[simp] theorem State.busLost_kept (s : State) :
    s.busLost.kept = s.kept := by
  simp only [State.busLost, State.enterAbandoned_kept, State.enterBlackout_kept, apply_ite State.kept, ite_self]

@[simp] theorem State.judgeBlind_kept (s : State) :
    s.judgeBlind.kept = s.kept := by
  simp only [State.judgeBlind, State.busLost_kept, apply_ite State.kept, ite_self]

@[simp] theorem State.enterSurvey_kept (s : State) :
    s.enterSurvey.kept = s.kept := by
  simp only [State.enterSurvey, State.endUf_kept, State.modBs_kept, State.setIsland_kept]

@[simp] theorem State.adopt_kept (s : State) :
    s.adopt.kept = s.kept := by
  simp only [State.adopt, kept_bal, State.shedAdopt_kept, State.pvAdopt_kept, State.genAdopt_kept, State.setIsland_kept]

@[simp] theorem State.judgeSurvey_kept (s : State) (atExpiry : Bool) :
    (s.judgeSurvey atExpiry).kept = s.kept := by
  unfold State.judgeSurvey
  repeat' first
    | with_reducible rfl
    | simp only [State.enterAbandoned_kept, State.enterBlackout_kept, State.adopt_kept]
    | split

@[simp] theorem State.surveyTap_kept (s : State) (judging : Bool) :
    (s.surveyTap judging).kept = s.kept := by
  simp only [State.surveyTap, State.modBs_kept, State.judgeSurvey_kept, apply_ite State.kept, ite_self]

@[simp] theorem State.enterEnergizing_kept (s : State) :
    s.enterEnergizing.kept = s.kept := by
  simp only [State.enterEnergizing, State.modBs_kept, State.setIsland_kept]

@[simp] theorem State.energizeFailed_kept (s : State) :
    s.energizeFailed.kept = s.kept := by
  simp only [State.energizeFailed, State.modBs_kept, State.enterAbandoned_kept, State.enterFirstSource_kept, apply_ite State.kept, ite_self]

@[simp] theorem State.enterRestoring_kept (s : State) :
    s.enterRestoring.kept = s.kept := by
  simp only [State.enterRestoring, State.genSettled_kept, State.modBs_kept, State.setIsland_kept]

@[simp] theorem State.endPvReturn_kept (s : State) :
    s.endPvReturn.kept = s.kept := by
  simp only [State.endPvReturn, State.shedRelease_kept, State.setIsland_kept]

@[simp] theorem State.permitNext_kept (s : State) :
    s.permitNext.kept = s.kept := by
  unfold State.permitNext
  split <;> simp only [State.pvPermitRequest_kept, State.modBs_kept, State.endPvReturn_kept]

@[simp] theorem State.permitExpiry_kept (s : State) :
    s.permitExpiry.kept = s.kept := by
  simp only [State.permitExpiry, State.modBs_kept, State.permitNext_kept, apply_ite State.kept, ite_self]

@[simp] theorem State.startPvHold_kept (s : State) :
    s.startPvHold.kept = s.kept := by
  simp only [State.startPvHold, State.modBs_kept, State.permitExpiry_kept, apply_ite State.kept, ite_self]

@[simp] theorem State.setRampBase_kept (s : State) (x : Int) :
    (s.setRampBase x).kept = s.kept := rfl

@[simp] theorem State.enterPvReturn_kept (s : State) :
    s.enterPvReturn.kept = s.kept := by
  simp only [State.enterPvReturn, State.modBs_kept, State.setIsland_kept, State.startPvHold_kept, State.setRampBase_kept]

@[simp] theorem State.executeStep_kept (s : State) (n : Fin 16) :
    (s.executeStep n).kept = s.kept := by
  simp only [State.executeStep, State.shedStepClose_kept, State.modBs_kept]

@[simp] theorem State.shortStep_kept (s : State) (n : Fin 16) :
    (s.shortStep n).kept = s.kept := by
  simp only [State.shortStep, State.raise_kept, State.startRequest_kept, State.modBs_kept, apply_ite State.kept, ite_self]

@[simp] theorem State.judgeStep_kept (s : State) :
    s.judgeStep.kept = s.kept := by
  unfold State.judgeStep
  repeat' first
    | with_reducible rfl
    | simp only [State.modBs_kept, State.enterPvReturn_kept, State.executeStep_kept,
    State.shortStep_kept]
    | split

@[simp] theorem State.bsBusTap_kept (s : State) :
    s.bsBusTap.kept = s.kept := by
  unfold State.bsBusTap
  repeat' first
    | with_reducible rfl
    | simp only [State.busLost_kept, State.enterSurvey_kept, State.surveyTap_kept,
    State.enterRestoring_kept, State.judgeStep_kept]
    | split

@[simp] theorem State.bsGenTap_kept (s : State) :
    s.bsGenTap.kept = s.kept := by
  simp only [State.bsGenTap, State.surveyTap_kept, apply_ite State.kept, ite_self]

@[simp] theorem State.bsSolTap_kept (s : State) :
    s.bsSolTap.kept = s.kept := by
  simp only [State.bsSolTap, State.surveyTap_kept, apply_ite State.kept, ite_self]

@[simp] theorem State.bsFdrTap_kept (s : State) :
    s.bsFdrTap.kept = s.kept := by
  simp only [State.bsFdrTap, State.judgeSettled_kept, State.surveyTap_kept, apply_ite State.kept, ite_self]

@[simp] theorem State.onGenChange_kept (s : State) (c : GenChange) :
    (s.onGenChange c).kept = s.kept := by
  unfold State.onGenChange
  repeat' first
    | with_reducible rfl
    | simp only [State.modBs_kept, State.enterAbandoned_kept, State.chooseFirstSource_kept,
    State.judgeBlind_kept, State.enterEnergizing_kept, State.energizeFailed_kept]
    | split

@[simp] theorem drainFuel_kept (n : Nat) (s : State) : (drainFuel n s).kept = s.kept := by
  induction n generalizing s with
  | zero => rfl
  | succ n ih =>
    simp only [drainFuel]
    split
    · rfl
    · rw [ih, State.onGenChange_kept, kept_seq]

@[simp] theorem State.drain_kept (s : State) :
    s.drain.kept = s.kept := by
  simp only [State.drain, drainFuel_kept]

@[simp] theorem State.limitDone_kept (s : State) :
    s.limitDone.kept = s.kept := by
  unfold State.limitDone
  repeat' first
    | with_reducible rfl
    | simp only [State.energizeFailure_kept, State.modBs_kept, State.enterAbandoned_kept]
    | split

@[simp] theorem State.energizeDone_kept (s : State) :
    s.energizeDone.kept = s.kept := by
  simp only [State.energizeDone, State.energizeFailure_kept, State.modBs_kept, State.energizeFailed_kept, apply_ite State.kept, ite_self]

@[simp] theorem State.surveyDone_kept (s : State) :
    s.surveyDone.kept = s.kept := by
  simp only [State.surveyDone, State.modBs_kept, State.judgeSurvey_kept, apply_ite State.kept, ite_self]

@[simp] theorem State.clearDownDone_kept (s : State) :
    s.clearDownDone.kept = s.kept := by
  simp only [State.clearDownDone, State.modBs_kept, State.completeClearDown_kept, apply_ite State.kept, ite_self]

@[simp] theorem State.proceed_kept (s : State) :
    s.proceed.kept = s.kept := by
  simp only [State.proceed, State.enterFirstSource_kept, State.enterBlackout_kept, apply_ite State.kept, ite_self]

@[simp] theorem State.trainProceed_kept (s : State) :
    s.trainProceed.kept = s.kept := by
  simp only [State.trainProceed, State.proceed_kept, apply_ite State.kept, ite_self]

@[simp] theorem State.bsLeaveCommissioning_kept (s : State) :
    s.bsLeaveCommissioning.kept = s.kept := by
  simp only [State.bsLeaveCommissioning, State.modBs_kept, State.chooseFirstSource_kept, State.orderClearDown_kept, State.permitNext_kept, apply_ite State.kept, ite_self]

end Sys2Proof.Machine
end

