-- ==== Sys2Proof/Laws/State.lean ====
section
/-! SUPPORT. The updates of the state, field by field: what an update gives, and what it leaves. Every
lemma is true by computation. -/

namespace Sys2Proof.Machine

/-! ## Vectors of records -/

@[simp] theorem put_same {α : Type} {n : Nat} (v : Vector α n) (i : Fin n) (x : α) :
    (put v i x)[i] = x := by simp [put]

@[simp] theorem put_other {α : Type} {n : Nat} (v : Vector α n) (i j : Fin n) (x : α)
    (h : j ≠ i) : (put v i x)[j] = v[j] := by
  have hv : i.val ≠ j.val := fun e => h (Fin.ext e.symm)
  simp [put, hv]

@[simp] theorem upd_same {α : Type} {n : Nat} (v : Vector α n) (i : Fin n) (f : α → α) :
    (upd v i f)[i] = f v[i] := put_same _ _ _

@[simp] theorem upd_other {α : Type} {n : Nat} (v : Vector α n) (i j : Fin n) (f : α → α)
    (h : j ≠ i) : (upd v i f)[j] = v[j] := put_other _ _ _ _ h

/-! ## Updates of one block -/

@[simp] theorem State.modGen_seq (s : State) (g : Fin 8) (f : GenJob → GenJob) :
    (s.modGen g f).seq = { s.seq with jobs := upd s.seq.jobs g f } := rfl

@[simp] theorem State.modGen_clock (s : State) (g : Fin 8) (f : GenJob → GenJob) : (s.modGen g f).clock = s.clock := rfl
@[simp] theorem State.modGen_loop (s : State) (g : Fin 8) (f : GenJob → GenJob) : (s.modGen g f).loop = s.loop := rfl
@[simp] theorem State.modGen_pic (s : State) (g : Fin 8) (f : GenJob → GenJob) : (s.modGen g f).pic = s.pic := rfl
@[simp] theorem State.modGen_bal (s : State) (g : Fin 8) (f : GenJob → GenJob) : (s.modGen g f).bal = s.bal := rfl
@[simp] theorem State.modGen_cur (s : State) (g : Fin 8) (f : GenJob → GenJob) : (s.modGen g f).cur = s.cur := rfl
@[simp] theorem State.modGen_shed (s : State) (g : Fin 8) (f : GenJob → GenJob) : (s.modGen g f).shed = s.shed := rfl
@[simp] theorem State.modGen_bs (s : State) (g : Fin 8) (f : GenJob → GenJob) : (s.modGen g f).bs = s.bs := rfl
@[simp] theorem State.modGen_mode (s : State) (g : Fin 8) (f : GenJob → GenJob) : (s.modGen g f).mode = s.mode := rfl
@[simp] theorem State.modGen_bank (s : State) (g : Fin 8) (f : GenJob → GenJob) : (s.modGen g f).bank = s.bank := rfl
@[simp] theorem State.modGen_store (s : State) (g : Fin 8) (f : GenJob → GenJob) : (s.modGen g f).store = s.store := rfl
@[simp] theorem State.modGen_dir (s : State) (g : Fin 8) (f : GenJob → GenJob) : (s.modGen g f).dir = s.dir := rfl
@[simp] theorem State.modGen_sum (s : State) (g : Fin 8) (f : GenJob → GenJob) : (s.modGen g f).sum = s.sum := rfl
@[simp] theorem State.modGen_pending (s : State) (g : Fin 8) (f : GenJob → GenJob) : (s.modGen g f).pending = s.pending := rfl

@[simp] theorem State.modPv_cur (s : State) (b : Fin 16) (f : PvJob → PvJob) :
    (s.modPv b f).cur = { s.cur with jobs := upd s.cur.jobs b f } := rfl

@[simp] theorem State.modPv_clock (s : State) (b : Fin 16) (f : PvJob → PvJob) : (s.modPv b f).clock = s.clock := rfl
@[simp] theorem State.modPv_loop (s : State) (b : Fin 16) (f : PvJob → PvJob) : (s.modPv b f).loop = s.loop := rfl
@[simp] theorem State.modPv_pic (s : State) (b : Fin 16) (f : PvJob → PvJob) : (s.modPv b f).pic = s.pic := rfl
@[simp] theorem State.modPv_bal (s : State) (b : Fin 16) (f : PvJob → PvJob) : (s.modPv b f).bal = s.bal := rfl
@[simp] theorem State.modPv_seq (s : State) (b : Fin 16) (f : PvJob → PvJob) : (s.modPv b f).seq = s.seq := rfl
@[simp] theorem State.modPv_shed (s : State) (b : Fin 16) (f : PvJob → PvJob) : (s.modPv b f).shed = s.shed := rfl
@[simp] theorem State.modPv_bs (s : State) (b : Fin 16) (f : PvJob → PvJob) : (s.modPv b f).bs = s.bs := rfl
@[simp] theorem State.modPv_mode (s : State) (b : Fin 16) (f : PvJob → PvJob) : (s.modPv b f).mode = s.mode := rfl
@[simp] theorem State.modPv_bank (s : State) (b : Fin 16) (f : PvJob → PvJob) : (s.modPv b f).bank = s.bank := rfl
@[simp] theorem State.modPv_store (s : State) (b : Fin 16) (f : PvJob → PvJob) : (s.modPv b f).store = s.store := rfl
@[simp] theorem State.modPv_dir (s : State) (b : Fin 16) (f : PvJob → PvJob) : (s.modPv b f).dir = s.dir := rfl
@[simp] theorem State.modPv_sum (s : State) (b : Fin 16) (f : PvJob → PvJob) : (s.modPv b f).sum = s.sum := rfl
@[simp] theorem State.modPv_pending (s : State) (b : Fin 16) (f : PvJob → PvJob) : (s.modPv b f).pending = s.pending := rfl

@[simp] theorem State.modFdr_shed (s : State) (i : Fin 32) (f : FdrJob → FdrJob) :
    (s.modFdr i f).shed = { s.shed with jobs := upd s.shed.jobs i f } := rfl

@[simp] theorem State.modFdr_clock (s : State) (i : Fin 32) (f : FdrJob → FdrJob) : (s.modFdr i f).clock = s.clock := rfl
@[simp] theorem State.modFdr_loop (s : State) (i : Fin 32) (f : FdrJob → FdrJob) : (s.modFdr i f).loop = s.loop := rfl
@[simp] theorem State.modFdr_pic (s : State) (i : Fin 32) (f : FdrJob → FdrJob) : (s.modFdr i f).pic = s.pic := rfl
@[simp] theorem State.modFdr_bal (s : State) (i : Fin 32) (f : FdrJob → FdrJob) : (s.modFdr i f).bal = s.bal := rfl
@[simp] theorem State.modFdr_cur (s : State) (i : Fin 32) (f : FdrJob → FdrJob) : (s.modFdr i f).cur = s.cur := rfl
@[simp] theorem State.modFdr_seq (s : State) (i : Fin 32) (f : FdrJob → FdrJob) : (s.modFdr i f).seq = s.seq := rfl
@[simp] theorem State.modFdr_bs (s : State) (i : Fin 32) (f : FdrJob → FdrJob) : (s.modFdr i f).bs = s.bs := rfl
@[simp] theorem State.modFdr_mode (s : State) (i : Fin 32) (f : FdrJob → FdrJob) : (s.modFdr i f).mode = s.mode := rfl
@[simp] theorem State.modFdr_bank (s : State) (i : Fin 32) (f : FdrJob → FdrJob) : (s.modFdr i f).bank = s.bank := rfl
@[simp] theorem State.modFdr_store (s : State) (i : Fin 32) (f : FdrJob → FdrJob) : (s.modFdr i f).store = s.store := rfl
@[simp] theorem State.modFdr_dir (s : State) (i : Fin 32) (f : FdrJob → FdrJob) : (s.modFdr i f).dir = s.dir := rfl
@[simp] theorem State.modFdr_sum (s : State) (i : Fin 32) (f : FdrJob → FdrJob) : (s.modFdr i f).sum = s.sum := rfl
@[simp] theorem State.modFdr_pending (s : State) (i : Fin 32) (f : FdrJob → FdrJob) : (s.modFdr i f).pending = s.pending := rfl

@[simp] theorem State.modGenRec_pic (s : State) (g : Fin 8) (f : GenRec → GenRec) :
    (s.modGenRec g f).pic = { s.pic with gen := upd s.pic.gen g f } := rfl

@[simp] theorem State.modGenRec_clock (s : State) (g : Fin 8) (f : GenRec → GenRec) : (s.modGenRec g f).clock = s.clock := rfl
@[simp] theorem State.modGenRec_loop (s : State) (g : Fin 8) (f : GenRec → GenRec) : (s.modGenRec g f).loop = s.loop := rfl
@[simp] theorem State.modGenRec_bal (s : State) (g : Fin 8) (f : GenRec → GenRec) : (s.modGenRec g f).bal = s.bal := rfl
@[simp] theorem State.modGenRec_cur (s : State) (g : Fin 8) (f : GenRec → GenRec) : (s.modGenRec g f).cur = s.cur := rfl
@[simp] theorem State.modGenRec_seq (s : State) (g : Fin 8) (f : GenRec → GenRec) : (s.modGenRec g f).seq = s.seq := rfl
@[simp] theorem State.modGenRec_shed (s : State) (g : Fin 8) (f : GenRec → GenRec) : (s.modGenRec g f).shed = s.shed := rfl
@[simp] theorem State.modGenRec_bs (s : State) (g : Fin 8) (f : GenRec → GenRec) : (s.modGenRec g f).bs = s.bs := rfl
@[simp] theorem State.modGenRec_mode (s : State) (g : Fin 8) (f : GenRec → GenRec) : (s.modGenRec g f).mode = s.mode := rfl
@[simp] theorem State.modGenRec_bank (s : State) (g : Fin 8) (f : GenRec → GenRec) : (s.modGenRec g f).bank = s.bank := rfl
@[simp] theorem State.modGenRec_store (s : State) (g : Fin 8) (f : GenRec → GenRec) : (s.modGenRec g f).store = s.store := rfl
@[simp] theorem State.modGenRec_dir (s : State) (g : Fin 8) (f : GenRec → GenRec) : (s.modGenRec g f).dir = s.dir := rfl
@[simp] theorem State.modGenRec_sum (s : State) (g : Fin 8) (f : GenRec → GenRec) : (s.modGenRec g f).sum = s.sum := rfl
@[simp] theorem State.modGenRec_pending (s : State) (g : Fin 8) (f : GenRec → GenRec) : (s.modGenRec g f).pending = s.pending := rfl

@[simp] theorem State.modPvRec_pic (s : State) (b : Fin 16) (f : PvRec → PvRec) :
    (s.modPvRec b f).pic = { s.pic with pv := upd s.pic.pv b f } := rfl

@[simp] theorem State.modPvRec_clock (s : State) (b : Fin 16) (f : PvRec → PvRec) : (s.modPvRec b f).clock = s.clock := rfl
@[simp] theorem State.modPvRec_loop (s : State) (b : Fin 16) (f : PvRec → PvRec) : (s.modPvRec b f).loop = s.loop := rfl
@[simp] theorem State.modPvRec_bal (s : State) (b : Fin 16) (f : PvRec → PvRec) : (s.modPvRec b f).bal = s.bal := rfl
@[simp] theorem State.modPvRec_cur (s : State) (b : Fin 16) (f : PvRec → PvRec) : (s.modPvRec b f).cur = s.cur := rfl
@[simp] theorem State.modPvRec_seq (s : State) (b : Fin 16) (f : PvRec → PvRec) : (s.modPvRec b f).seq = s.seq := rfl
@[simp] theorem State.modPvRec_shed (s : State) (b : Fin 16) (f : PvRec → PvRec) : (s.modPvRec b f).shed = s.shed := rfl
@[simp] theorem State.modPvRec_bs (s : State) (b : Fin 16) (f : PvRec → PvRec) : (s.modPvRec b f).bs = s.bs := rfl
@[simp] theorem State.modPvRec_mode (s : State) (b : Fin 16) (f : PvRec → PvRec) : (s.modPvRec b f).mode = s.mode := rfl
@[simp] theorem State.modPvRec_bank (s : State) (b : Fin 16) (f : PvRec → PvRec) : (s.modPvRec b f).bank = s.bank := rfl
@[simp] theorem State.modPvRec_store (s : State) (b : Fin 16) (f : PvRec → PvRec) : (s.modPvRec b f).store = s.store := rfl
@[simp] theorem State.modPvRec_dir (s : State) (b : Fin 16) (f : PvRec → PvRec) : (s.modPvRec b f).dir = s.dir := rfl
@[simp] theorem State.modPvRec_sum (s : State) (b : Fin 16) (f : PvRec → PvRec) : (s.modPvRec b f).sum = s.sum := rfl
@[simp] theorem State.modPvRec_pending (s : State) (b : Fin 16) (f : PvRec → PvRec) : (s.modPvRec b f).pending = s.pending := rfl

@[simp] theorem State.modFdrRec_pic (s : State) (i : Fin 32) (f : FdrRec → FdrRec) :
    (s.modFdrRec i f).pic = { s.pic with fdr := upd s.pic.fdr i f } := rfl

@[simp] theorem State.modFdrRec_clock (s : State) (i : Fin 32) (f : FdrRec → FdrRec) : (s.modFdrRec i f).clock = s.clock := rfl
@[simp] theorem State.modFdrRec_loop (s : State) (i : Fin 32) (f : FdrRec → FdrRec) : (s.modFdrRec i f).loop = s.loop := rfl
@[simp] theorem State.modFdrRec_bal (s : State) (i : Fin 32) (f : FdrRec → FdrRec) : (s.modFdrRec i f).bal = s.bal := rfl
@[simp] theorem State.modFdrRec_cur (s : State) (i : Fin 32) (f : FdrRec → FdrRec) : (s.modFdrRec i f).cur = s.cur := rfl
@[simp] theorem State.modFdrRec_seq (s : State) (i : Fin 32) (f : FdrRec → FdrRec) : (s.modFdrRec i f).seq = s.seq := rfl
@[simp] theorem State.modFdrRec_shed (s : State) (i : Fin 32) (f : FdrRec → FdrRec) : (s.modFdrRec i f).shed = s.shed := rfl
@[simp] theorem State.modFdrRec_bs (s : State) (i : Fin 32) (f : FdrRec → FdrRec) : (s.modFdrRec i f).bs = s.bs := rfl
@[simp] theorem State.modFdrRec_mode (s : State) (i : Fin 32) (f : FdrRec → FdrRec) : (s.modFdrRec i f).mode = s.mode := rfl
@[simp] theorem State.modFdrRec_bank (s : State) (i : Fin 32) (f : FdrRec → FdrRec) : (s.modFdrRec i f).bank = s.bank := rfl
@[simp] theorem State.modFdrRec_store (s : State) (i : Fin 32) (f : FdrRec → FdrRec) : (s.modFdrRec i f).store = s.store := rfl
@[simp] theorem State.modFdrRec_dir (s : State) (i : Fin 32) (f : FdrRec → FdrRec) : (s.modFdrRec i f).dir = s.dir := rfl
@[simp] theorem State.modFdrRec_sum (s : State) (i : Fin 32) (f : FdrRec → FdrRec) : (s.modFdrRec i f).sum = s.sum := rfl
@[simp] theorem State.modFdrRec_pending (s : State) (i : Fin 32) (f : FdrRec → FdrRec) : (s.modFdrRec i f).pending = s.pending := rfl

@[simp] theorem State.modBusRec_pic (s : State) (f : BusRec → BusRec) :
    (s.modBusRec f).pic = { s.pic with bus := f s.pic.bus } := rfl

@[simp] theorem State.modBusRec_clock (s : State) (f : BusRec → BusRec) : (s.modBusRec f).clock = s.clock := rfl
@[simp] theorem State.modBusRec_loop (s : State) (f : BusRec → BusRec) : (s.modBusRec f).loop = s.loop := rfl
@[simp] theorem State.modBusRec_bal (s : State) (f : BusRec → BusRec) : (s.modBusRec f).bal = s.bal := rfl
@[simp] theorem State.modBusRec_cur (s : State) (f : BusRec → BusRec) : (s.modBusRec f).cur = s.cur := rfl
@[simp] theorem State.modBusRec_seq (s : State) (f : BusRec → BusRec) : (s.modBusRec f).seq = s.seq := rfl
@[simp] theorem State.modBusRec_shed (s : State) (f : BusRec → BusRec) : (s.modBusRec f).shed = s.shed := rfl
@[simp] theorem State.modBusRec_bs (s : State) (f : BusRec → BusRec) : (s.modBusRec f).bs = s.bs := rfl
@[simp] theorem State.modBusRec_mode (s : State) (f : BusRec → BusRec) : (s.modBusRec f).mode = s.mode := rfl
@[simp] theorem State.modBusRec_bank (s : State) (f : BusRec → BusRec) : (s.modBusRec f).bank = s.bank := rfl
@[simp] theorem State.modBusRec_store (s : State) (f : BusRec → BusRec) : (s.modBusRec f).store = s.store := rfl
@[simp] theorem State.modBusRec_dir (s : State) (f : BusRec → BusRec) : (s.modBusRec f).dir = s.dir := rfl
@[simp] theorem State.modBusRec_sum (s : State) (f : BusRec → BusRec) : (s.modBusRec f).sum = s.sum := rfl
@[simp] theorem State.modBusRec_pending (s : State) (f : BusRec → BusRec) : (s.modBusRec f).pending = s.pending := rfl

@[simp] theorem State.modBs_bs (s : State) (f : BlackStart → BlackStart) :
    (s.modBs f).bs = f s.bs := rfl

@[simp] theorem State.modBs_clock (s : State) (f : BlackStart → BlackStart) : (s.modBs f).clock = s.clock := rfl
@[simp] theorem State.modBs_loop (s : State) (f : BlackStart → BlackStart) : (s.modBs f).loop = s.loop := rfl
@[simp] theorem State.modBs_pic (s : State) (f : BlackStart → BlackStart) : (s.modBs f).pic = s.pic := rfl
@[simp] theorem State.modBs_bal (s : State) (f : BlackStart → BlackStart) : (s.modBs f).bal = s.bal := rfl
@[simp] theorem State.modBs_cur (s : State) (f : BlackStart → BlackStart) : (s.modBs f).cur = s.cur := rfl
@[simp] theorem State.modBs_seq (s : State) (f : BlackStart → BlackStart) : (s.modBs f).seq = s.seq := rfl
@[simp] theorem State.modBs_shed (s : State) (f : BlackStart → BlackStart) : (s.modBs f).shed = s.shed := rfl
@[simp] theorem State.modBs_mode (s : State) (f : BlackStart → BlackStart) : (s.modBs f).mode = s.mode := rfl
@[simp] theorem State.modBs_bank (s : State) (f : BlackStart → BlackStart) : (s.modBs f).bank = s.bank := rfl
@[simp] theorem State.modBs_store (s : State) (f : BlackStart → BlackStart) : (s.modBs f).store = s.store := rfl
@[simp] theorem State.modBs_dir (s : State) (f : BlackStart → BlackStart) : (s.modBs f).dir = s.dir := rfl
@[simp] theorem State.modBs_sum (s : State) (f : BlackStart → BlackStart) : (s.modBs f).sum = s.sum := rfl
@[simp] theorem State.modBs_pending (s : State) (f : BlackStart → BlackStart) : (s.modBs f).pending = s.pending := rfl

@[simp] theorem State.modMode_mode (s : State) (f : ModeControl → ModeControl) :
    (s.modMode f).mode = f s.mode := rfl

@[simp] theorem State.modMode_clock (s : State) (f : ModeControl → ModeControl) : (s.modMode f).clock = s.clock := rfl
@[simp] theorem State.modMode_loop (s : State) (f : ModeControl → ModeControl) : (s.modMode f).loop = s.loop := rfl
@[simp] theorem State.modMode_pic (s : State) (f : ModeControl → ModeControl) : (s.modMode f).pic = s.pic := rfl
@[simp] theorem State.modMode_bal (s : State) (f : ModeControl → ModeControl) : (s.modMode f).bal = s.bal := rfl
@[simp] theorem State.modMode_cur (s : State) (f : ModeControl → ModeControl) : (s.modMode f).cur = s.cur := rfl
@[simp] theorem State.modMode_seq (s : State) (f : ModeControl → ModeControl) : (s.modMode f).seq = s.seq := rfl
@[simp] theorem State.modMode_shed (s : State) (f : ModeControl → ModeControl) : (s.modMode f).shed = s.shed := rfl
@[simp] theorem State.modMode_bs (s : State) (f : ModeControl → ModeControl) : (s.modMode f).bs = s.bs := rfl
@[simp] theorem State.modMode_bank (s : State) (f : ModeControl → ModeControl) : (s.modMode f).bank = s.bank := rfl
@[simp] theorem State.modMode_store (s : State) (f : ModeControl → ModeControl) : (s.modMode f).store = s.store := rfl
@[simp] theorem State.modMode_dir (s : State) (f : ModeControl → ModeControl) : (s.modMode f).dir = s.dir := rfl
@[simp] theorem State.modMode_sum (s : State) (f : ModeControl → ModeControl) : (s.modMode f).sum = s.sum := rfl
@[simp] theorem State.modMode_pending (s : State) (f : ModeControl → ModeControl) : (s.modMode f).pending = s.pending := rfl

@[simp] theorem State.modBank_bank (s : State) (f : TableBank → TableBank) :
    (s.modBank f).bank = f s.bank := rfl

@[simp] theorem State.modBank_clock (s : State) (f : TableBank → TableBank) : (s.modBank f).clock = s.clock := rfl
@[simp] theorem State.modBank_loop (s : State) (f : TableBank → TableBank) : (s.modBank f).loop = s.loop := rfl
@[simp] theorem State.modBank_pic (s : State) (f : TableBank → TableBank) : (s.modBank f).pic = s.pic := rfl
@[simp] theorem State.modBank_bal (s : State) (f : TableBank → TableBank) : (s.modBank f).bal = s.bal := rfl
@[simp] theorem State.modBank_cur (s : State) (f : TableBank → TableBank) : (s.modBank f).cur = s.cur := rfl
@[simp] theorem State.modBank_seq (s : State) (f : TableBank → TableBank) : (s.modBank f).seq = s.seq := rfl
@[simp] theorem State.modBank_shed (s : State) (f : TableBank → TableBank) : (s.modBank f).shed = s.shed := rfl
@[simp] theorem State.modBank_bs (s : State) (f : TableBank → TableBank) : (s.modBank f).bs = s.bs := rfl
@[simp] theorem State.modBank_mode (s : State) (f : TableBank → TableBank) : (s.modBank f).mode = s.mode := rfl
@[simp] theorem State.modBank_store (s : State) (f : TableBank → TableBank) : (s.modBank f).store = s.store := rfl
@[simp] theorem State.modBank_dir (s : State) (f : TableBank → TableBank) : (s.modBank f).dir = s.dir := rfl
@[simp] theorem State.modBank_sum (s : State) (f : TableBank → TableBank) : (s.modBank f).sum = s.sum := rfl
@[simp] theorem State.modBank_pending (s : State) (f : TableBank → TableBank) : (s.modBank f).pending = s.pending := rfl

@[simp] theorem State.modShed_shed (s : State) (f : Shedding → Shedding) :
    (s.modShed f).shed = f s.shed := rfl

@[simp] theorem State.modShed_clock (s : State) (f : Shedding → Shedding) : (s.modShed f).clock = s.clock := rfl
@[simp] theorem State.modShed_loop (s : State) (f : Shedding → Shedding) : (s.modShed f).loop = s.loop := rfl
@[simp] theorem State.modShed_pic (s : State) (f : Shedding → Shedding) : (s.modShed f).pic = s.pic := rfl
@[simp] theorem State.modShed_bal (s : State) (f : Shedding → Shedding) : (s.modShed f).bal = s.bal := rfl
@[simp] theorem State.modShed_cur (s : State) (f : Shedding → Shedding) : (s.modShed f).cur = s.cur := rfl
@[simp] theorem State.modShed_seq (s : State) (f : Shedding → Shedding) : (s.modShed f).seq = s.seq := rfl
@[simp] theorem State.modShed_bs (s : State) (f : Shedding → Shedding) : (s.modShed f).bs = s.bs := rfl
@[simp] theorem State.modShed_mode (s : State) (f : Shedding → Shedding) : (s.modShed f).mode = s.mode := rfl
@[simp] theorem State.modShed_bank (s : State) (f : Shedding → Shedding) : (s.modShed f).bank = s.bank := rfl
@[simp] theorem State.modShed_store (s : State) (f : Shedding → Shedding) : (s.modShed f).store = s.store := rfl
@[simp] theorem State.modShed_dir (s : State) (f : Shedding → Shedding) : (s.modShed f).dir = s.dir := rfl
@[simp] theorem State.modShed_sum (s : State) (f : Shedding → Shedding) : (s.modShed f).sum = s.sum := rfl
@[simp] theorem State.modShed_pending (s : State) (f : Shedding → Shedding) : (s.modShed f).pending = s.pending := rfl

@[simp] theorem State.mapMarks_loop (s : State) (f : Marks → Marks) :
    (s.mapMarks f).loop = s.loop.mapMarks f := rfl

@[simp] theorem State.mapMarks_clock (s : State) (f : Marks → Marks) : (s.mapMarks f).clock = s.clock := by rw [State.mapMarks]
@[simp] theorem State.mapMarks_pic (s : State) (f : Marks → Marks) : (s.mapMarks f).pic = s.pic := by rw [State.mapMarks]
@[simp] theorem State.mapMarks_bal (s : State) (f : Marks → Marks) : (s.mapMarks f).bal = s.bal := by rw [State.mapMarks]
@[simp] theorem State.mapMarks_cur (s : State) (f : Marks → Marks) : (s.mapMarks f).cur = s.cur := by rw [State.mapMarks]
@[simp] theorem State.mapMarks_seq (s : State) (f : Marks → Marks) : (s.mapMarks f).seq = s.seq := by rw [State.mapMarks]
@[simp] theorem State.mapMarks_shed (s : State) (f : Marks → Marks) : (s.mapMarks f).shed = s.shed := by rw [State.mapMarks]
@[simp] theorem State.mapMarks_bs (s : State) (f : Marks → Marks) : (s.mapMarks f).bs = s.bs := by rw [State.mapMarks]
@[simp] theorem State.mapMarks_mode (s : State) (f : Marks → Marks) : (s.mapMarks f).mode = s.mode := by rw [State.mapMarks]
@[simp] theorem State.mapMarks_bank (s : State) (f : Marks → Marks) : (s.mapMarks f).bank = s.bank := by rw [State.mapMarks]
@[simp] theorem State.mapMarks_store (s : State) (f : Marks → Marks) : (s.mapMarks f).store = s.store := by rw [State.mapMarks]
@[simp] theorem State.mapMarks_dir (s : State) (f : Marks → Marks) : (s.mapMarks f).dir = s.dir := by rw [State.mapMarks]
@[simp] theorem State.mapMarks_sum (s : State) (f : Marks → Marks) : (s.mapMarks f).sum = s.sum := by rw [State.mapMarks]
@[simp] theorem State.mapMarks_pending (s : State) (f : Marks → Marks) : (s.mapMarks f).pending = s.pending := by rw [State.mapMarks]

@[simp] theorem State.setRampBase_bal (s : State) (x : Int) :
    (s.setRampBase x).bal = { s.bal with rampBase := x } := rfl

@[simp] theorem State.setRampBase_clock (s : State) (x : Int) : (s.setRampBase x).clock = s.clock := rfl
@[simp] theorem State.setRampBase_loop (s : State) (x : Int) : (s.setRampBase x).loop = s.loop := rfl
@[simp] theorem State.setRampBase_pic (s : State) (x : Int) : (s.setRampBase x).pic = s.pic := rfl
@[simp] theorem State.setRampBase_cur (s : State) (x : Int) : (s.setRampBase x).cur = s.cur := rfl
@[simp] theorem State.setRampBase_seq (s : State) (x : Int) : (s.setRampBase x).seq = s.seq := rfl
@[simp] theorem State.setRampBase_shed (s : State) (x : Int) : (s.setRampBase x).shed = s.shed := rfl
@[simp] theorem State.setRampBase_bs (s : State) (x : Int) : (s.setRampBase x).bs = s.bs := rfl
@[simp] theorem State.setRampBase_mode (s : State) (x : Int) : (s.setRampBase x).mode = s.mode := rfl
@[simp] theorem State.setRampBase_bank (s : State) (x : Int) : (s.setRampBase x).bank = s.bank := rfl
@[simp] theorem State.setRampBase_store (s : State) (x : Int) : (s.setRampBase x).store = s.store := rfl
@[simp] theorem State.setRampBase_dir (s : State) (x : Int) : (s.setRampBase x).dir = s.dir := rfl
@[simp] theorem State.setRampBase_sum (s : State) (x : Int) : (s.setRampBase x).sum = s.sum := rfl
@[simp] theorem State.setRampBase_pending (s : State) (x : Int) : (s.setRampBase x).pending = s.pending := rfl

@[simp] theorem State.dropFront_pending (s : State) (cs : List Instr) :
    (s.dropFront cs).pending = cs := rfl

@[simp] theorem State.dropFront_clock (s : State) (cs : List Instr) : (s.dropFront cs).clock = s.clock := rfl
@[simp] theorem State.dropFront_loop (s : State) (cs : List Instr) : (s.dropFront cs).loop = s.loop := rfl
@[simp] theorem State.dropFront_pic (s : State) (cs : List Instr) : (s.dropFront cs).pic = s.pic := rfl
@[simp] theorem State.dropFront_bal (s : State) (cs : List Instr) : (s.dropFront cs).bal = s.bal := rfl
@[simp] theorem State.dropFront_cur (s : State) (cs : List Instr) : (s.dropFront cs).cur = s.cur := rfl
@[simp] theorem State.dropFront_seq (s : State) (cs : List Instr) : (s.dropFront cs).seq = s.seq := rfl
@[simp] theorem State.dropFront_shed (s : State) (cs : List Instr) : (s.dropFront cs).shed = s.shed := rfl
@[simp] theorem State.dropFront_bs (s : State) (cs : List Instr) : (s.dropFront cs).bs = s.bs := rfl
@[simp] theorem State.dropFront_mode (s : State) (cs : List Instr) : (s.dropFront cs).mode = s.mode := rfl
@[simp] theorem State.dropFront_bank (s : State) (cs : List Instr) : (s.dropFront cs).bank = s.bank := rfl
@[simp] theorem State.dropFront_store (s : State) (cs : List Instr) : (s.dropFront cs).store = s.store := rfl
@[simp] theorem State.dropFront_dir (s : State) (cs : List Instr) : (s.dropFront cs).dir = s.dir := rfl
@[simp] theorem State.dropFront_sum (s : State) (cs : List Instr) : (s.dropFront cs).sum = s.sum := rfl

@[simp] theorem State.idle_clock (s : State) :
    s.idle.clock = s.clock + 1 := rfl

@[simp] theorem State.idle_loop (s : State) : s.idle.loop = s.loop := rfl
@[simp] theorem State.idle_pic (s : State) : s.idle.pic = s.pic := rfl
@[simp] theorem State.idle_bal (s : State) : s.idle.bal = s.bal := rfl
@[simp] theorem State.idle_cur (s : State) : s.idle.cur = s.cur := rfl
@[simp] theorem State.idle_seq (s : State) : s.idle.seq = s.seq := rfl
@[simp] theorem State.idle_shed (s : State) : s.idle.shed = s.shed := rfl
@[simp] theorem State.idle_bs (s : State) : s.idle.bs = s.bs := rfl
@[simp] theorem State.idle_mode (s : State) : s.idle.mode = s.mode := rfl
@[simp] theorem State.idle_bank (s : State) : s.idle.bank = s.bank := rfl
@[simp] theorem State.idle_store (s : State) : s.idle.store = s.store := rfl
@[simp] theorem State.idle_dir (s : State) : s.idle.dir = s.dir := rfl
@[simp] theorem State.idle_sum (s : State) : s.idle.sum = s.sum := rfl
@[simp] theorem State.idle_pending (s : State) : s.idle.pending = s.pending := rfl

/-! ## One port -/

@[simp] theorem State.modPort_port (s : State) (p : Port) (f : PortState → PortState) :
    (s.modPort p f).port p = f (s.port p) := by cases p <;> rfl

@[simp] theorem State.modPort_other (s : State) (p : Port) (f : PortState → PortState) :
    (s.modPort p f).port p.other = s.port p.other := by cases p <;> rfl

@[simp] theorem State.modPort_clock (s : State) (p : Port) (f : PortState → PortState) :
    (s.modPort p f).clock = s.clock := by cases p <;> rfl

@[simp] theorem State.modPort_pic (s : State) (p : Port) (f : PortState → PortState) :
    (s.modPort p f).pic = s.pic := by cases p <;> rfl

@[simp] theorem State.modPort_bal (s : State) (p : Port) (f : PortState → PortState) :
    (s.modPort p f).bal = s.bal := by cases p <;> rfl

@[simp] theorem State.modPort_cur (s : State) (p : Port) (f : PortState → PortState) :
    (s.modPort p f).cur = s.cur := by cases p <;> rfl

@[simp] theorem State.modPort_seq (s : State) (p : Port) (f : PortState → PortState) :
    (s.modPort p f).seq = s.seq := by cases p <;> rfl

@[simp] theorem State.modPort_shed (s : State) (p : Port) (f : PortState → PortState) :
    (s.modPort p f).shed = s.shed := by cases p <;> rfl

@[simp] theorem State.modPort_bs (s : State) (p : Port) (f : PortState → PortState) :
    (s.modPort p f).bs = s.bs := by cases p <;> rfl

@[simp] theorem State.modPort_mode (s : State) (p : Port) (f : PortState → PortState) :
    (s.modPort p f).mode = s.mode := by cases p <;> rfl

@[simp] theorem State.modPort_bank (s : State) (p : Port) (f : PortState → PortState) :
    (s.modPort p f).bank = s.bank := by cases p <;> rfl

@[simp] theorem State.modPort_store (s : State) (p : Port) (f : PortState → PortState) :
    (s.modPort p f).store = s.store := by cases p <;> rfl

@[simp] theorem State.modPort_dir (s : State) (p : Port) (f : PortState → PortState) :
    (s.modPort p f).dir = s.dir := by cases p <;> rfl

@[simp] theorem State.modPort_sum (s : State) (p : Port) (f : PortState → PortState) :
    (s.modPort p f).sum = s.sum := by cases p <;> rfl

@[simp] theorem State.modPort_pending (s : State) (p : Port) (f : PortState → PortState) :
    (s.modPort p f).pending = s.pending := by cases p <;> rfl

@[simp] theorem State.modPort_loop_strap (s : State) (p : Port) (f : PortState → PortState) :
    (s.modPort p f).loop.strap = s.loop.strap := by cases p <;> rfl

@[simp] theorem State.modPort_loop_dup (s : State) (p : Port) (f : PortState → PortState) :
    (s.modPort p f).loop.dup = s.loop.dup := by cases p <;> rfl

@[simp] theorem State.modPort_loop_orders (s : State) (p : Port) (f : PortState → PortState) :
    (s.modPort p f).loop.orders = s.loop.orders := by cases p <;> rfl

@[simp] theorem State.modPort_loop_ageCounter (s : State) (p : Port) (f : PortState → PortState) :
    (s.modPort p f).loop.ageCounter = s.loop.ageCounter := by cases p <;> rfl

@[simp] theorem State.modPort_loop_answers (s : State) (p : Port) (f : PortState → PortState) :
    (s.modPort p f).loop.answers = s.loop.answers := by cases p <;> rfl

@[simp] theorem State.modPort_loop_notice (s : State) (p : Port) (f : PortState → PortState) :
    (s.modPort p f).loop.notice = s.loop.notice := by cases p <;> rfl

@[simp] theorem State.modPort_loop_seqCounter (s : State) (p : Port) (f : PortState → PortState) :
    (s.modPort p f).loop.seqCounter = s.loop.seqCounter := by cases p <;> rfl

/-! ## The clock -/

@[simp] theorem State.reach_some (s : State) (d : Nat) : s.reach (some d) = s.at d := rfl

@[simp] theorem State.expire_none (s : State) (f : State → State) : s.expire none f = s := rfl

@[simp] theorem State.expire_some (s : State) (d : Nat) (f : State → State) :
    s.expire (some d) f = f (s.at d) := rfl

/-! ## One record -/

@[simp] theorem State.modGen_gen (s : State) (i : Fin 8) (f : GenJob → GenJob) :
    (s.modGen i f).gen i = f (s.gen i) := upd_same _ _ _

@[simp] theorem State.modGen_gen_other (s : State) (i j : Fin 8) (f : GenJob → GenJob) (h : j ≠ i) :
    (s.modGen i f).gen j = s.gen j := upd_other _ _ _ _ h

@[simp] theorem State.modPv_pv (s : State) (i : Fin 16) (f : PvJob → PvJob) :
    (s.modPv i f).pv i = f (s.pv i) := upd_same _ _ _

@[simp] theorem State.modPv_pv_other (s : State) (i j : Fin 16) (f : PvJob → PvJob) (h : j ≠ i) :
    (s.modPv i f).pv j = s.pv j := upd_other _ _ _ _ h

@[simp] theorem State.modFdr_fdr (s : State) (i : Fin 32) (f : FdrJob → FdrJob) :
    (s.modFdr i f).fdr i = f (s.fdr i) := upd_same _ _ _

@[simp] theorem State.modFdr_fdr_other (s : State) (i j : Fin 32) (f : FdrJob → FdrJob) (h : j ≠ i) :
    (s.modFdr i f).fdr j = s.fdr j := upd_other _ _ _ _ h

@[simp] theorem State.modGenRec_genRec (s : State) (i : Fin 8) (f : GenRec → GenRec) :
    (s.modGenRec i f).genRec i = f (s.genRec i) := upd_same _ _ _

@[simp] theorem State.modGenRec_genRec_other (s : State) (i j : Fin 8) (f : GenRec → GenRec) (h : j ≠ i) :
    (s.modGenRec i f).genRec j = s.genRec j := upd_other _ _ _ _ h

@[simp] theorem State.modPvRec_pvRec (s : State) (i : Fin 16) (f : PvRec → PvRec) :
    (s.modPvRec i f).pvRec i = f (s.pvRec i) := upd_same _ _ _

@[simp] theorem State.modPvRec_pvRec_other (s : State) (i j : Fin 16) (f : PvRec → PvRec) (h : j ≠ i) :
    (s.modPvRec i f).pvRec j = s.pvRec j := upd_other _ _ _ _ h

@[simp] theorem State.modFdrRec_fdrRec (s : State) (i : Fin 32) (f : FdrRec → FdrRec) :
    (s.modFdrRec i f).fdrRec i = f (s.fdrRec i) := upd_same _ _ _

@[simp] theorem State.modFdrRec_fdrRec_other (s : State) (i j : Fin 32) (f : FdrRec → FdrRec) (h : j ≠ i) :
    (s.modFdrRec i f).fdrRec j = s.fdrRec j := upd_other _ _ _ _ h

end Sys2Proof.Machine
end

