-- ==== Sys2Proof/Laws/Ops.lean ====
section
/-! SUPPORT. What the shared operations do, once for each: order slots, marks, ports, notice flags,
clamping, choices by rank, the handing on of genset changes, the join of an answer. -/

namespace Sys2Proof.Machine

/-! ## Order slots (R19 to R21) -/

/-- An order placed fills the slot or replaces its content. -/
@[simp] theorem State.place_slot (s : State) (a : Addr) (code : OrderCode) (tag : Byte) (cap : Nat)
    (cls : OrderClass) :
    (s.place a code tag cap cls).slot a = some (s.placedSlot a code tag cap cls) :=
  put_same _ _ _

@[simp] theorem State.place_slot_other (s : State) (a b : Addr) (code : OrderCode) (tag : Byte)
    (cap : Nat) (cls : OrderClass) (h : b ≠ a) :
    (s.place a code tag cap cls).slot b = s.slot b := put_other _ _ _ _ h

@[simp] theorem State.emptySlot_slot (s : State) (a : Addr) : (s.emptySlot a).slot a = none :=
  put_same _ _ _

@[simp] theorem State.emptySlot_slot_other (s : State) (a b : Addr) (h : b ≠ a) :
    (s.emptySlot a).slot b = s.slot b := put_other _ _ _ _ h

theorem State.holdsOne_emptySlot_other (s : State) (codes : List OrderCode) (a b : Addr) (h : b ≠ a) :
    (s.emptySlot a).holdsOne codes b = s.holdsOne codes b := by
  unfold State.holdsOne
  rw [State.emptySlot_slot_other s a b h]

theorem State.holdsOne_emptySlot (s : State) (codes : List OrderCode) (a : Addr) :
    (s.emptySlot a).holdsOne codes a = false := by
  unfold State.holdsOne
  rw [State.emptySlot_slot]
  rfl

/-- Emptying the slots of a list of stations that hold one of the codes leaves every other slot. -/
theorem forEach_emptySlot_slot (codes : List OrderCode) (a : Addr) (as : List Addr) (s : State) :
    (forEach as (fun b s => if s.holdsOne codes b then s.emptySlot b else s) s).slot a
      = if a ∈ as ∧ s.holdsOne codes a = true then none else s.slot a := by
  unfold forEach
  induction as generalizing s with
  | nil => simp
  | cons b bs ih =>
    rw [List.foldl_cons, ih]
    by_cases hb : s.holdsOne codes b = true <;> by_cases hab : a = b
    · subst hab
      simp [hb, State.holdsOne_emptySlot]
    · simp [hb, hab, State.holdsOne_emptySlot_other _ _ _ _ hab]
    · subst hab
      simp [hb]
    · simp [hb, hab]

/-- A withdrawal empties the slots that hold one of the codes, and no other (R72, R105, R127). -/
theorem State.withdraw_slot (s : State) (codes : List OrderCode) (a : Addr) :
    (s.withdraw codes).slot a = if s.holdsOne codes a = true then none else s.slot a := by
  unfold State.withdraw
  rw [forEach_emptySlot_slot]
  simp [addresses]
  rfl

@[simp] theorem State.place_seqCounter (s : State) (a : Addr) (code : OrderCode) (tag : Byte)
    (cap : Nat) (cls : OrderClass) :
    (s.place a code tag cap cls).loop.seqCounter = s.loop.seqCounter + 1 := rfl

@[simp] theorem State.emptySlot_seqCounter (s : State) (a : Addr) :
    (s.emptySlot a).loop.seqCounter = s.loop.seqCounter := rfl

/-- New content is never done. -/
theorem State.newMarks_pending (s : State) : s.newMarks.isDone = false := by
  unfold State.newMarks
  cases s.loop.portE.isDown <;> cases s.loop.portW.isDown <;> rfl

/-! ## Marks (R15) -/

theorem Marks.clear_on (m : Marks) (p : Port) : (m.clear p).on p = false := by cases p <;> rfl

theorem Marks.clear_other (m : Marks) (p : Port) : (m.clear p).on p.other = m.on p.other := by
  cases p <;> rfl

/-- A mark that a port leaves behind on entering DOWN moves to the other port, or is held on both. -/
theorem Marks.portDown_pending (m : Marks) (p : Port) (d : Bool) (h : m.isDone = false) :
    (m.portDown p d).isDone = false := by
  cases p <;> cases d <;> rcases m with ⟨_ | _, _ | _⟩ <;> first | rfl | exact h

theorem Marks.portUp_pending (m : Marks) (p : Port) (h : m.isDone = false) :
    (m.portUp p).isDone = false := by
  cases p <;> rcases m with ⟨_ | _, _ | _⟩ <;> first | rfl | exact h

/-! ## Ports (R10, R18) -/

/-- A transmitter that starts a waiting frame was idle; the buffer keeps the frame until it is sent. -/
theorem PortState.startForward_buffer (x : PortState) : x.startForward.buffer = x.buffer := by
  unfold PortState.startForward
  split <;> rfl

theorem PortState.startForward_busy (x : PortState) (h : x.tx ≠ .idle) : x.startForward = x := by
  unfold PortState.startForward
  split
  · rename_i heq _
    exact absurd heq h
  · rfl

theorem PortState.abort_buffer (x : PortState) : x.abort.buffer = x.buffer := by
  unfold PortState.abort
  split
  · rw [PortState.startForward_buffer]
  · rfl
  · rfl

/-- A frame placed for forwarding joins the buffer where it has room, and is dropped otherwise; in
neither case does the buffer hold more than two frames that held at most two. -/
theorem PortState.placeForward_buffer (x : PortState) (f : Frame) :
    (x.placeForward f).buffer = if 2 ≤ x.buffer.length then x.buffer else x.buffer ++ [f] := by
  unfold PortState.placeForward
  split
  · rfl
  · dsimp only
    split <;> simp [PortState.startForward_buffer, PortState.abort_buffer]

theorem PortState.forwarded_buffer (x : PortState) :
    x.forwarded.buffer = if x.tx = .forwarding then x.buffer.tail else x.buffer := by
  unfold PortState.forwarded
  split
  · rename_i h
    simp [h, PortState.startForward_buffer]
  · rename_i h
    simp [h]
  · rename_i h
    simp [h]

/-! ## Notice flags (R187) -/

theorem State.fillNotice_sum (s : State) : s.fillNotice.sum = s.sum := rfl

/-- Raising a flag does nothing else to the summary. -/
@[simp] theorem State.raise_sum (s : State) (f : Flag) : (s.raise f).sum = s.sum.setFlag f := by
  unfold State.raise
  dsimp only
  split <;> rfl

/-- A flag raised is set and unseen. -/
theorem Summary.setFlag_has (n : Summary) (f : Flag) : (n.setFlag f).has f = true := by
  cases f <;> simp [Summary.setFlag, Summary.has, Flag.word, Flag.bit]

theorem Summary.setFlag_unseen (n : Summary) (f : Flag) : (n.setFlag f).isSeen f = false := by
  cases f <;> simp [Summary.setFlag, Summary.isSeen, Flag.word, Flag.bit]

/-- Raising one flag clears no other. -/
theorem Summary.setFlag_keeps (n : Summary) (f g : Flag) (h : n.has g = true) :
    (n.setFlag f).has g = true := by
  simp only [Summary.has, Summary.setFlag] at h ⊢
  simp [h]

@[simp] theorem State.raise_orders (s : State) (f : Flag) :
    (s.raise f).loop.orders = s.loop.orders := by
  unfold State.raise
  dsimp only
  split <;> rfl

@[simp] theorem State.raise_slot (s : State) (f : Flag) (a : Addr) :
    (s.raise f).slot a = s.slot a := by
  unfold State.slot
  rw [State.raise_orders]

/-- Raising a flag leaves every job. -/
theorem State.raise_jobs (s : State) (f : Flag) :
    (s.raise f).bal = s.bal ∧ (s.raise f).cur = s.cur ∧ (s.raise f).seq = s.seq ∧
      (s.raise f).shed = s.shed ∧ (s.raise f).bs = s.bs := by
  unfold State.raise
  dsimp only
  split <;> exact ⟨rfl, rfl, rfl, rfl, rfl⟩

/-! ## Clamping (R28 to R31, R37, R170) -/

theorem clampNat_le (lo hi v : Nat) : clampNat lo hi v ≤ hi := Nat.min_le_left _ _

theorem le_clampNat (lo hi v : Nat) (h : lo ≤ hi) : lo ≤ clampNat lo hi v := by
  unfold clampNat
  omega

/-- A value within its range is stored as it is. -/
theorem clampNat_within (lo hi v : Nat) (h : lo ≤ v) (k : v ≤ hi) : clampNat lo hi v = v := by
  unfold clampNat
  omega

theorem clampKw_le (raw : Int) (top : Nat) : clampKw raw top ≤ top := by
  unfold clampKw
  omega

theorem clampAvail_le (raw : Int) (out rating : Nat) : clampAvail raw out rating ≤ rating :=
  Nat.min_le_left _ _

theorem count_le (n : Nat) (b : Bool) : count n b ≤ 8 := by
  unfold count
  split <;> omega

/-! ## Choices by rank -/

/-- The member chosen is a member of the list. -/
theorem leastBy_mem {ι : Type} (f : ι → Nat) (is : List ι) (i : ι) (h : leastBy f is = some i) :
    i ∈ is := by
  induction is generalizing i with
  | nil => cases h
  | cons j is ih =>
    simp only [leastBy] at h
    split at h
    · cases h; exact List.mem_cons_self
    · rename_i k hk
      split at h <;> cases h
      · exact List.mem_cons_of_mem _ (ih _ hk)
      · exact List.mem_cons_self

/-- No member of the list has a lesser value than the one chosen. -/
theorem leastBy_least {ι : Type} (f : ι → Nat) (is : List ι) (i : ι) (h : leastBy f is = some i) :
    ∀ j ∈ is, f i ≤ f j := by
  induction is generalizing i with
  | nil => cases h
  | cons j is ih =>
    simp only [leastBy] at h
    intro k hk
    split at h
    · rename_i hn
      cases h
      cases is with
      | nil =>
        rcases List.mem_cons.mp hk with rfl | hk
        · exact Nat.le_refl _
        · cases hk
      | cons a as =>
        simp only [leastBy] at hn
        split at hn
        · cases hn
        · split at hn <;> cases hn
    · rename_i m hm
      rcases List.mem_cons.mp hk with rfl | hk
      · split at h <;> cases h <;> omega
      · have := ih m hm k hk
        split at h <;> cases h <;> omega

/-- A list with a member has a least one. -/
theorem leastBy_isSome {ι : Type} (f : ι → Nat) (i : ι) (is : List ι) :
    (leastBy f (i :: is)).isSome = true := by
  simp only [leastBy]
  split
  · rfl
  · split <;> rfl

/-! ## The handing on of genset changes -/

/-- With nothing waiting to be handed on, nothing happens. -/
theorem State.drain_of_handedOn (s : State) (h : s.HandedOn) : s.drain = s := by
  unfold State.drain
  simp only [drainFuel, h]

/-- Nothing waits to be handed on afterwards. -/
theorem drainFuel_handedOn (n : Nat) (s : State) : (drainFuel n s).HandedOn := by
  induction n generalizing s with
  | zero => rfl
  | succ n ih =>
    simp only [drainFuel]
    split
    · assumption
    · exact ih _

theorem State.drain_handedOn (s : State) : s.drain.HandedOn := drainFuel_handedOn _ _

/-- A change that the controller finds made in an island state it has left is not acted on. -/
theorem State.onGenChange_stale (s : State) (c : GenChange) (h : c.island ≠ s.bs.island) :
    s.onGenChange c = s := by
  simp [State.onGenChange, h]

/-! ## Answers (R14, R15, R191) -/

/-- One answer joins the tail of the FIFO. -/
theorem State.join_answers (s : State) (src : Addr) (code token : Byte) (r : Reply) :
    (s.join src code token r).loop.answers = s.loop.answers ++ [⟨src, code, token, r.result, r.clamped,
      headSegments s.act.hopCount s.newMarks s.loop.seqCounter (replySegments r.data)⟩] := rfl

/-- Reply data of at most 42 bytes is one segment. -/
theorem replySegments_short (bs : List Byte) (h : bs.length ≤ 42) : replySegments bs = [bs] := by
  simp [replySegments, chunks, h]

/-- No segment carries more than 42 bytes. -/
theorem chunks_le (n : Nat) (bs : List Byte) : ∀ d ∈ chunks n bs, d.length ≤ 42 := by
  induction n generalizing bs with
  | zero => intro d h; cases h
  | succ n ih =>
    simp only [chunks]
    split
    · intro d hd
      rw [List.mem_singleton.mp hd]
      assumption
    · intro d hd
      rcases List.mem_cons.mp hd with rfl | hd
      · rw [List.length_take]; omega
      · exact ih _ d hd

/-- Each segment takes its own header. -/
theorem headSegments_length (hop : Nat) (m : Marks) (seq : Byte) (ds : List (List Byte)) :
    (headSegments hop m seq ds).length = ds.length := by
  induction ds generalizing seq with
  | nil => rfl
  | cons d ds ih => simp [headSegments, ih]

end Sys2Proof.Machine
end

