-- ==== Sys2Proof/Laws/Orders.lean ====
section
/-! SUPPORT. What giving an order does, in the words of the statements: the orders of the sets against
`State.Stands`, the placing of an order against `State.Places`. -/

namespace Sys2Proof.Machine

@[simp] theorem State.placeFor_gen (s : State) (u : UnitRef) (code : OrderCode) (tag : Byte) (cap : Nat)
    (cls : OrderClass) (g : Fin 8) : (s.placeFor u code tag cap cls).gen g = s.gen g := by
  unfold State.placeFor
  split <;> rfl

@[simp] theorem State.emptyFor_gen (s : State) (u : UnitRef) (g : Fin 8) :
    (s.emptyFor u).gen g = s.gen g := by
  unfold State.emptyFor
  split <;> rfl

theorem State.emptyFor_slot (s : State) (u : UnitRef) (a : Addr) (h : s.act.stationOf u = some a) :
    (s.emptyFor u).slot a = none := by
  simp [State.emptyFor, h]

/-- The order in the slot after a placing (R19, R20). -/
theorem State.placeFor_places (s : State) (u : UnitRef) (code : OrderCode) (tag : Byte) (cap : Nat)
    (cls : OrderClass) : s.Places (s.placeFor u code tag cap cls) u code tag cap cls := by
  intro a h
  refine ⟨s.placedSlot a code tag cap cls, by simp [State.placeFor, h], ?_⟩
  unfold State.placedSlot
  split
  next e => simp [e]
  next o e =>
    refine ⟨rfl, rfl, rfl, rfl, rfl, ?_⟩
    cases hc : o.cls <;> simp [e, hc, OrderClass.higher]

/-- A set comes to stand nothing (R102). -/
theorem State.genNone_stands (s : State) (g : Fin 8) : s.Stands (s.genNone g) g .none := by
  unfold State.Stands
  rw [if_pos rfl]
  refine ⟨?_, ?_, ?_, ?_, ?_, ?_, ?_, ?_⟩
  all_goals first
    | (intro a h; exact State.emptyFor_slot (s.modGen g _) _ a h)
    | simp [State.genNone]

/-- A set comes to stand another order (R102, R105). -/
theorem State.genNewOrder_stands (s : State) (g : Fin 8) (code : OrderCode) (h : code ≠ .none)
    (hc : (s.gen g).order ≠ code) : s.Stands (s.genNewOrder g code .routine) g code := by
  unfold State.Stands
  rw [if_neg h, if_neg hc]
  unfold State.genNewOrder
  by_cases hm : s.mode.mode = .commissioning ∧ code ≠ .open
  · have hb : (s.mode.mode == .commissioning && code != .open) = true := by simp [hm.1, hm.2]
    rw [if_pos hm]
    simp only [hb, if_true]
    refine ⟨?_, ?_, ?_, ?_, ?_, ?_, ?_, fun a ha => State.emptyFor_slot (s.modGen g _) _ a ha⟩
    all_goals simp
  · have hb : (s.mode.mode == .commissioning && code != .open) = false := by
      simpa [Bool.and_eq_false_iff, imp_iff_not_or, Classical.not_and_iff_not_or_not] using hm
    rw [if_neg hm]
    simp only [hb]
    refine ⟨?_, ?_, ?_, ?_, ?_, ?_, ?_, fun a ha =>
      State.placeFor_places (s.modGen g _) (.genset g) code ((s.gen g).tag + 1) 0 .routine a ha⟩
    all_goals simp

/-- What `genOrder` does, once: a new order, or nothing where the code stands already. -/
theorem State.genOrder_stands (s : State) (g : Fin 8) (code : OrderCode) (h : code ≠ .none) :
    s.Stands (s.genOrder g code) g code := by
  unfold State.genOrder
  by_cases hc : (s.gen g).order = code
  · simp [State.Stands, State.KeepsOrder, hc, h]
  · simp only [beq_iff_eq, hc, if_false]
    exact s.genNewOrder_stands g code h hc

end Sys2Proof.Machine
end

