-- ==== Sys2Proof/Laws/OutsideCurtail.lean ====
section
/-! SUPPORT. The outbound entries, the notice flags and the curtailment allocator touch neither the sequencer nor
the shedding unit nor the black-start controller: one lemma for each operation. -/

namespace Sys2Proof.Machine

/-- What the curtailment allocator leaves alone of the other jobs. -/
def State.outsideCurtail (s : State) : Sequencer × Shedding × BlackStart := (s.seq, s.shed, s.bs)

theorem outsideCurtail_cur (s : State) (x : Curtailment) : State.outsideCurtail { s with cur := x } = s.outsideCurtail := rfl
theorem outsideCurtail_bal (s : State) (x : Balance) : State.outsideCurtail { s with bal := x } = s.outsideCurtail := rfl
theorem outsideCurtail_sum (s : State) (x : Summary) : State.outsideCurtail { s with sum := x } = s.outsideCurtail := rfl

theorem forEach_outsideCurtail {ι : Type} (f : ι → State → State)
    (h : ∀ i s, (f i s).outsideCurtail = s.outsideCurtail) (is : List ι) (s : State) :
    (forEach is f s).outsideCurtail = s.outsideCurtail := by
  induction is generalizing s with
  | nil => rfl
  | cons i is ih => exact (ih (f i s)).trans (h i s)

@[simp] theorem State.modPv_outsideCurtail (s : State) (b : Fin 16) (f : PvJob → PvJob) :
    (s.modPv b f).outsideCurtail = s.outsideCurtail := rfl

@[simp] theorem State.nextSeq_outsideCurtail (s : State) :
    s.nextSeq.outsideCurtail = s.outsideCurtail := rfl

@[simp] theorem State.cutOrders_outsideCurtail (s : State) (sel : Addr → Byte → Bool) :
    (s.cutOrders sel).outsideCurtail = s.outsideCurtail := rfl

@[simp] theorem State.place_outsideCurtail (s : State) (a : Addr) (code : OrderCode)
    (tag : Byte) (cap : Nat) (cls : OrderClass) :
    (s.place a code tag cap cls).outsideCurtail = s.outsideCurtail := rfl

@[simp] theorem State.emptySlot_outsideCurtail (s : State) (a : Addr) :
    (s.emptySlot a).outsideCurtail = s.outsideCurtail := rfl

@[simp] theorem State.placeFor_outsideCurtail (s : State) (u : UnitRef) (code : OrderCode)
    (tag : Byte) (cap : Nat) (cls : OrderClass) :
    (s.placeFor u code tag cap cls).outsideCurtail = s.outsideCurtail := by
  unfold State.placeFor
  split <;> simp only [State.place_outsideCurtail]

@[simp] theorem State.emptyFor_outsideCurtail (s : State) (u : UnitRef) :
    (s.emptyFor u).outsideCurtail = s.outsideCurtail := by
  unfold State.emptyFor
  split <;> simp only [State.emptySlot_outsideCurtail]

@[simp] theorem State.withdraw_outsideCurtail (s : State) (codes : List OrderCode) :
    (s.withdraw codes).outsideCurtail = s.outsideCurtail := by
  unfold State.withdraw
  try dsimp only
  repeat' first
    | with_reducible rfl
    | simp only [State.emptySlot_outsideCurtail]
    | (refine forEach_outsideCurtail _ (fun _ _ => ?_) _ _)
    | (refine Eq.trans (forEach_outsideCurtail _ (fun _ _ => ?_) _ _) ?_)
    | split

@[simp] theorem State.fillNotice_outsideCurtail (s : State) :
    s.fillNotice.outsideCurtail = s.outsideCurtail := rfl

@[simp] theorem State.raise_outsideCurtail (s : State) (f : Flag) :
    (s.raise f).outsideCurtail = s.outsideCurtail := by
  simp only [State.raise, outsideCurtail_sum, State.fillNotice_outsideCurtail, apply_ite State.outsideCurtail, ite_self]

@[simp] theorem State.pvNone_outsideCurtail (s : State) (b : Fin 16) :
    (s.pvNone b).outsideCurtail = s.outsideCurtail := by
  simp only [State.pvNone, State.modPv_outsideCurtail, State.emptyFor_outsideCurtail]

@[simp] theorem State.pvOrder_outsideCurtail (s : State) (b : Fin 16) (code : OrderCode)
    (cap : Option Nat) (cls : OrderClass) :
    (s.pvOrder b code cap cls).outsideCurtail = s.outsideCurtail := by
  simp only [State.pvOrder, State.modPv_outsideCurtail, State.placeFor_outsideCurtail]

@[simp] theorem State.setPvState_outsideCurtail (s : State) (b : Fin 16) (x : PvState) :
    (s.setPvState b x).outsideCurtail = s.outsideCurtail := rfl

@[simp] theorem State.pvConnected_outsideCurtail (s : State) (b : Fin 16) (connected : Bool) :
    (s.pvConnected b connected).outsideCurtail = s.outsideCurtail := by
  unfold State.pvConnected
  split <;> simp only [State.modPv_outsideCurtail, State.pvNone_outsideCurtail, State.setPvState_outsideCurtail]

@[simp] theorem State.pvPermit_outsideCurtail (s : State) (b : Fin 16) :
    (s.pvPermit b).outsideCurtail = s.outsideCurtail := by
  simp only [State.pvPermit, State.pvOrder_outsideCurtail, State.setPvState_outsideCurtail]

@[simp] theorem State.pvLatched_outsideCurtail (s : State) (b : Fin 16) (v : PvValues) :
    (s.pvLatched b v).outsideCurtail = s.outsideCurtail := by
  simp only [State.pvLatched, State.pvPermit_outsideCurtail, apply_ite State.outsideCurtail, ite_self]

@[simp] theorem State.pvEcho_outsideCurtail (s : State) (b : Fin 16) (v : PvValues) :
    (s.pvEcho b v).outsideCurtail = s.outsideCurtail := by
  simp only [State.pvEcho, State.modPv_outsideCurtail, State.placeFor_outsideCurtail, State.raise_outsideCurtail, apply_ite State.outsideCurtail, ite_self]

@[simp] theorem State.curTap_outsideCurtail (s : State) (b : Fin 16) :
    (s.curTap b).outsideCurtail = s.outsideCurtail := by
  unfold State.curTap
  repeat' first
    | with_reducible rfl
    | simp only [State.pvConnected_outsideCurtail, State.pvLatched_outsideCurtail, State.pvEcho_outsideCurtail]
    | split

@[simp] theorem State.pvClearDown_outsideCurtail (s : State) :
    s.pvClearDown.outsideCurtail = s.outsideCurtail := by
  unfold State.pvClearDown
  try dsimp only
  repeat' first
    | with_reducible rfl
    | simp only [State.pvOrder_outsideCurtail, State.setPvState_outsideCurtail]
    | (refine forEach_outsideCurtail _ (fun _ _ => ?_) _ _)
    | (refine Eq.trans (forEach_outsideCurtail _ (fun _ _ => ?_) _ _) ?_)
    | split

@[simp] theorem State.pvPermitRequest_outsideCurtail (s : State) (b : Fin 16) :
    (s.pvPermitRequest b).outsideCurtail = s.outsideCurtail := by
  simp only [State.pvPermitRequest, State.pvPermit_outsideCurtail, apply_ite State.outsideCurtail, ite_self]

@[simp] theorem State.pvAdopt_outsideCurtail (s : State) :
    s.pvAdopt.outsideCurtail = s.outsideCurtail := by
  unfold State.pvAdopt
  try dsimp only
  repeat' first
    | with_reducible rfl
    | simp only [State.pvNone_outsideCurtail, State.setPvState_outsideCurtail]
    | (refine forEach_outsideCurtail _ (fun _ _ => ?_) _ _)
    | (refine Eq.trans (forEach_outsideCurtail _ (fun _ _ => ?_) _ _) ?_)
    | split

@[simp] theorem State.applyTarget_outsideCurtail (s : State) (f : Fractions) (b : Fin 16) :
    (s.applyTarget f b).outsideCurtail = s.outsideCurtail := by
  simp only [State.applyTarget, State.pvOrder_outsideCurtail, apply_ite State.outsideCurtail, ite_self]

@[simp] theorem State.recordAllocation_outsideCurtail (s : State) (f : Fractions) (a : Int) :
    (s.recordAllocation f a).outsideCurtail = s.outsideCurtail := by
  unfold State.recordAllocation
  try dsimp only
  repeat' first
    | with_reducible rfl
    | simp only [outsideCurtail_cur, State.modPv_outsideCurtail]
    | (refine forEach_outsideCurtail _ (fun _ _ => ?_) _ _)

@[simp] theorem State.allocate_outsideCurtail (s : State) (xCmd a : Int) :
    (s.allocate xCmd a).outsideCurtail = s.outsideCurtail := by
  have each (f : Fractions) (b : Fin 16) (t : State) :
      State.outsideCurtail (if s.inScmd b then t.applyTarget f b else t) = t.outsideCurtail := by
    simp only [State.applyTarget_outsideCurtail, apply_ite State.outsideCurtail, ite_self]
  unfold State.allocate
  dsimp only
  rw [apply_ite State.outsideCurtail, forEach_outsideCurtail _ (each _), State.recordAllocation_outsideCurtail, ite_self]

@[simp] theorem State.uncap_outsideCurtail (s : State) (b : Fin 16) :
    (s.uncap b).outsideCurtail = s.outsideCurtail := by
  simp only [State.uncap, State.pvOrder_outsideCurtail, apply_ite State.outsideCurtail, ite_self]

@[simp] theorem State.sourceLossRelease_outsideCurtail (s : State) :
    s.sourceLossRelease.outsideCurtail = s.outsideCurtail := by
  unfold State.sourceLossRelease
  try dsimp only
  repeat' first
    | with_reducible rfl
    | simp only [outsideCurtail_bal, State.uncap_outsideCurtail]
    | (refine forEach_outsideCurtail _ (fun _ _ => ?_) _ _)
    | (refine Eq.trans (forEach_outsideCurtail _ (fun _ _ => ?_) _ _) ?_)
    | split

@[simp] theorem State.curEnterCommissioning_outsideCurtail (s : State) :
    s.curEnterCommissioning.outsideCurtail = s.outsideCurtail := by
  simp only [State.curEnterCommissioning, State.withdraw_outsideCurtail]

end Sys2Proof.Machine
end

