-- ==== Sys2Proof/Laws/OutsideSeq.lean ====
section
/-! SUPPORT. The outbound entries, the notice flags and the set sequencer, but for a source loss, touch no other
job: one lemma for each operation. -/

namespace Sys2Proof.Machine

/-- What the set sequencer leaves alone of the other jobs, but in a source loss. -/
def State.outsideSeq (s : State) : Balance × Curtailment × Shedding × BlackStart :=
  (s.bal, s.cur, s.shed, s.bs)

theorem outsideSeq_seq (s : State) (x : Sequencer) : State.outsideSeq { s with seq := x } = s.outsideSeq := rfl
theorem outsideSeq_sum (s : State) (x : Summary) : State.outsideSeq { s with sum := x } = s.outsideSeq := rfl

theorem forEach_outsideSeq {ι : Type} (f : ι → State → State)
    (h : ∀ i s, (f i s).outsideSeq = s.outsideSeq) (is : List ι) (s : State) :
    (forEach is f s).outsideSeq = s.outsideSeq := by
  induction is generalizing s with
  | nil => rfl
  | cons i is ih => exact (ih (f i s)).trans (h i s)

@[simp] theorem State.modGen_outsideSeq (s : State) (g : Fin 8) (f : GenJob → GenJob) :
    (s.modGen g f).outsideSeq = s.outsideSeq := rfl

@[simp] theorem State.nextSeq_outsideSeq (s : State) :
    s.nextSeq.outsideSeq = s.outsideSeq := rfl

@[simp] theorem State.cutOrders_outsideSeq (s : State) (sel : Addr → Byte → Bool) :
    (s.cutOrders sel).outsideSeq = s.outsideSeq := rfl

@[simp] theorem State.place_outsideSeq (s : State) (a : Addr) (code : OrderCode) (tag : Byte)
    (cap : Nat) (cls : OrderClass) :
    (s.place a code tag cap cls).outsideSeq = s.outsideSeq := rfl

@[simp] theorem State.emptySlot_outsideSeq (s : State) (a : Addr) :
    (s.emptySlot a).outsideSeq = s.outsideSeq := rfl

@[simp] theorem State.placeFor_outsideSeq (s : State) (u : UnitRef) (code : OrderCode)
    (tag : Byte) (cap : Nat) (cls : OrderClass) :
    (s.placeFor u code tag cap cls).outsideSeq = s.outsideSeq := by
  unfold State.placeFor
  split <;> simp only [State.place_outsideSeq]

@[simp] theorem State.emptyFor_outsideSeq (s : State) (u : UnitRef) :
    (s.emptyFor u).outsideSeq = s.outsideSeq := by
  unfold State.emptyFor
  split <;> simp only [State.emptySlot_outsideSeq]

@[simp] theorem State.withdraw_outsideSeq (s : State) (codes : List OrderCode) :
    (s.withdraw codes).outsideSeq = s.outsideSeq := by
  unfold State.withdraw
  try dsimp only
  repeat' first
    | with_reducible rfl
    | simp only [State.emptySlot_outsideSeq]
    | (refine forEach_outsideSeq _ (fun _ _ => ?_) _ _)
    | (refine Eq.trans (forEach_outsideSeq _ (fun _ _ => ?_) _ _) ?_)
    | split

@[simp] theorem State.fillNotice_outsideSeq (s : State) :
    s.fillNotice.outsideSeq = s.outsideSeq := rfl

@[simp] theorem State.raise_outsideSeq (s : State) (f : Flag) :
    (s.raise f).outsideSeq = s.outsideSeq := by
  simp only [State.raise, outsideSeq_sum, State.fillNotice_outsideSeq, apply_ite State.outsideSeq, ite_self]

@[simp] theorem State.genNone_outsideSeq (s : State) (g : Fin 8) :
    (s.genNone g).outsideSeq = s.outsideSeq := by
  simp only [State.genNone, State.modGen_outsideSeq, State.emptyFor_outsideSeq]

@[simp] theorem State.genNewOrder_outsideSeq (s : State) (g : Fin 8) (code : OrderCode)
    (cls : OrderClass) :
    (s.genNewOrder g code cls).outsideSeq = s.outsideSeq := by
  simp only [State.genNewOrder, State.modGen_outsideSeq, State.placeFor_outsideSeq, State.emptyFor_outsideSeq, apply_ite State.outsideSeq, ite_self]

@[simp] theorem State.genOrder_outsideSeq (s : State) (g : Fin 8) (code : OrderCode) :
    (s.genOrder g code).outsideSeq = s.outsideSeq := by
  simp only [State.genOrder, State.genNewOrder_outsideSeq, apply_ite State.outsideSeq, ite_self]

@[simp] theorem State.setGenState_outsideSeq (s : State) (g : Fin 8) (x : GenState)
    (keep : Bool) :
    (s.setGenState g x keep).outsideSeq = s.outsideSeq := by
  simp only [State.setGenState, outsideSeq_seq, State.modGen_outsideSeq, apply_ite State.outsideSeq, ite_self]

@[simp] theorem State.startSup_outsideSeq (s : State) (g : Fin 8) (sec : Nat) :
    (s.startSup g sec).outsideSeq = s.outsideSeq := rfl

@[simp] theorem State.stopSup_outsideSeq (s : State) (g : Fin 8) :
    (s.stopSup g).outsideSeq = s.outsideSeq := rfl

@[simp] theorem State.enterNotReady_outsideSeq (s : State) (g : Fin 8) :
    (s.enterNotReady g).outsideSeq = s.outsideSeq := by
  simp only [State.enterNotReady, State.genNone_outsideSeq, State.setGenState_outsideSeq]

@[simp] theorem State.enterStandby_outsideSeq (s : State) (g : Fin 8) :
    (s.enterStandby g).outsideSeq = s.outsideSeq := by
  simp only [State.enterStandby, State.genNone_outsideSeq, State.setGenState_outsideSeq]

@[simp] theorem State.enterStopping_outsideSeq (s : State) (g : Fin 8) :
    (s.enterStopping g).outsideSeq = s.outsideSeq := by
  simp only [State.enterStopping, State.genOrder_outsideSeq, State.setGenState_outsideSeq, State.startSup_outsideSeq]

@[simp] theorem State.startCool_outsideSeq (s : State) (g : Fin 8) :
    (s.startCool g).outsideSeq = s.outsideSeq := by
  simp only [State.startCool, State.startSup_outsideSeq, State.enterStopping_outsideSeq, apply_ite State.outsideSeq, ite_self]

@[simp] theorem State.enterCooldown_outsideSeq (s : State) (g : Fin 8) :
    (s.enterCooldown g).outsideSeq = s.outsideSeq := by
  simp only [State.enterCooldown, State.genOrder_outsideSeq, State.setGenState_outsideSeq, State.startCool_outsideSeq, apply_ite State.outsideSeq, ite_self]

@[simp] theorem State.enterHot_outsideSeq (s : State) (g : Fin 8) :
    (s.enterHot g).outsideSeq = s.outsideSeq := by
  simp only [State.enterHot, State.genNone_outsideSeq, State.setGenState_outsideSeq, State.startSup_outsideSeq, State.enterCooldown_outsideSeq, apply_ite State.outsideSeq, ite_self]

@[simp] theorem State.enterSyncing_outsideSeq (s : State) (g : Fin 8) (dead : Bool) :
    (s.enterSyncing g dead).outsideSeq = s.outsideSeq := by
  simp only [State.enterSyncing, State.genOrder_outsideSeq, State.setGenState_outsideSeq, State.startSup_outsideSeq]

@[simp] theorem State.enterResting_outsideSeq (s : State) (g : Fin 8) :
    (s.enterResting g).outsideSeq = s.outsideSeq := by
  simp only [State.enterResting, State.genOrder_outsideSeq, State.setGenState_outsideSeq, State.startSup_outsideSeq]

@[simp] theorem State.enterCranking_outsideSeq (s : State) (g : Fin 8) (n : Nat) :
    (s.enterCranking g n).outsideSeq = s.outsideSeq := by
  simp only [State.enterCranking, State.modGen_outsideSeq, State.genOrder_outsideSeq, State.setGenState_outsideSeq, State.startSup_outsideSeq]

@[simp] theorem State.enterLockout_outsideSeq (s : State) (g : Fin 8) (code : OrderCode) :
    (s.enterLockout g code).outsideSeq = s.outsideSeq := by
  unfold State.enterLockout
  repeat' first
    | with_reducible rfl
    | simp only [State.cutOrders_outsideSeq, State.raise_outsideSeq, State.genOrder_outsideSeq, State.setGenState_outsideSeq]
    | split

@[simp] theorem State.failedAttempt_outsideSeq (s : State) (g : Fin 8) :
    (s.failedAttempt g).outsideSeq = s.outsideSeq := by
  simp only [State.failedAttempt, State.raise_outsideSeq, State.enterStopping_outsideSeq, State.enterResting_outsideSeq, State.enterLockout_outsideSeq, apply_ite State.outsideSeq, ite_self]

@[simp] theorem State.failedClose_outsideSeq (s : State) (g : Fin 8) :
    (s.failedClose g).outsideSeq = s.outsideSeq := by
  simp only [State.failedClose, State.raise_outsideSeq, State.enterCooldown_outsideSeq, State.enterLockout_outsideSeq, apply_ite State.outsideSeq, ite_self]

@[simp] theorem State.warmDone_outsideSeq (s : State) (g : Fin 8) :
    (s.warmDone g).outsideSeq = s.outsideSeq := by
  simp only [State.warmDone, State.enterHot_outsideSeq, State.enterSyncing_outsideSeq, State.failedAttempt_outsideSeq, apply_ite State.outsideSeq, ite_self]

@[simp] theorem State.enterWarmup_outsideSeq (s : State) (g : Fin 8) :
    (s.enterWarmup g).outsideSeq = s.outsideSeq := by
  simp only [State.enterWarmup, State.genNone_outsideSeq, State.setGenState_outsideSeq, State.startSup_outsideSeq, State.warmDone_outsideSeq, apply_ite State.outsideSeq, ite_self]

@[simp] theorem State.enterOnline_outsideSeq (s : State) (g : Fin 8) :
    (s.enterOnline g).outsideSeq = s.outsideSeq := by
  simp only [State.enterOnline, State.modGen_outsideSeq, State.genNone_outsideSeq, State.setGenState_outsideSeq]

@[simp] theorem State.takeStart_outsideSeq (s : State) (g : Fin 8) (dead : Bool) :
    (s.takeStart g dead).outsideSeq = s.outsideSeq := by
  simp only [State.takeStart, State.modGen_outsideSeq, State.enterSyncing_outsideSeq, State.enterCranking_outsideSeq, apply_ite State.outsideSeq, ite_self]

@[simp] theorem State.startRequest_outsideSeq (s : State) (named : Option (Fin 8)) (dead : Bool) :
    (s.startRequest named dead).outsideSeq = s.outsideSeq := by
  unfold State.startRequest
  repeat' first
    | with_reducible rfl
    | simp only [State.takeStart_outsideSeq]
    | split

@[simp] theorem State.stopSet_outsideSeq (s : State) (g : Fin 8) :
    (s.stopSet g).outsideSeq = s.outsideSeq := by
  simp only [State.stopSet, State.genOrder_outsideSeq, State.setGenState_outsideSeq, State.startSup_outsideSeq, apply_ite State.outsideSeq, ite_self]

@[simp] theorem State.roundCompleteOf_outsideSeq (s : State) (m : Int) (g : Fin 8) :
    (s.roundCompleteOf m g).outsideSeq = s.outsideSeq := by
  unfold State.roundCompleteOf
  repeat' first
    | with_reducible rfl
    | simp only [State.genOrder_outsideSeq, State.setGenState_outsideSeq]
    | split

@[simp] theorem State.roundComplete_outsideSeq (s : State) (m : Int) :
    (s.roundComplete m).outsideSeq = s.outsideSeq := by
  unfold State.roundComplete
  try dsimp only
  repeat' first
    | with_reducible rfl
    | simp only [State.roundCompleteOf_outsideSeq]
    | (refine forEach_outsideSeq _ (fun _ _ => ?_) _ _)

@[simp] theorem State.tripEntry_outsideSeq (s : State) (g : Fin 8) (v : GenValues) :
    (s.tripEntry g v).outsideSeq = s.outsideSeq := by
  simp only [State.tripEntry, State.enterNotReady_outsideSeq, State.enterCooldown_outsideSeq, apply_ite State.outsideSeq, ite_self]

@[simp] theorem State.stoppedEntry_outsideSeq (s : State) (g : Fin 8) (v : GenValues) :
    (s.stoppedEntry g v).outsideSeq = s.outsideSeq := by
  simp only [State.stoppedEntry, State.enterNotReady_outsideSeq, State.enterStandby_outsideSeq, apply_ite State.outsideSeq, ite_self]

@[simp] theorem State.unseenReturn_outsideSeq (s : State) (g : Fin 8) (v : GenValues) :
    (s.unseenReturn g v).outsideSeq = s.outsideSeq := by
  unfold State.unseenReturn
  repeat' first
    | with_reducible rfl
    | simp only [State.setGenState_outsideSeq, State.startSup_outsideSeq, State.tripEntry_outsideSeq]
    | split

@[simp] theorem State.unansweredEffect_outsideSeq (s : State) (g : Fin 8) :
    (s.unansweredEffect g).outsideSeq = s.outsideSeq := by
  unfold State.unansweredEffect
  split <;> simp only [State.genNone_outsideSeq, State.enterNotReady_outsideSeq, State.failedAttempt_outsideSeq, State.failedClose_outsideSeq]

@[simp] theorem State.genEcho_outsideSeq (s : State) (g : Fin 8) (v : GenValues) :
    (s.genEcho g v).outsideSeq = s.outsideSeq := by
  simp only [State.genEcho, State.modGen_outsideSeq, State.placeFor_outsideSeq, State.raise_outsideSeq, State.unansweredEffect_outsideSeq, apply_ite State.outsideSeq, ite_self]

@[simp] theorem State.genGoesLost_outsideSeq (s : State) (g : Fin 8) :
    (s.genGoesLost g).outsideSeq = s.outsideSeq := by
  unfold State.genGoesLost
  split <;> simp only [State.modGen_outsideSeq, State.setGenState_outsideSeq, State.enterNotReady_outsideSeq]

@[simp] theorem State.seqBusTap_outsideSeq (s : State) :
    s.seqBusTap.outsideSeq = s.outsideSeq := by
  unfold State.seqBusTap
  try dsimp only
  repeat' first
    | with_reducible rfl
    | simp only [State.genOrder_outsideSeq]
    | (refine forEach_outsideSeq _ (fun _ _ => ?_) _ _)
    | (refine Eq.trans (forEach_outsideSeq _ (fun _ _ => ?_) _ _) ?_)
    | split

@[simp] theorem State.restDone_outsideSeq (s : State) (g : Fin 8) (wanted : Bool) :
    (s.restDone g wanted).outsideSeq = s.outsideSeq := by
  simp only [State.restDone, State.enterStandby_outsideSeq, State.enterCranking_outsideSeq, apply_ite State.outsideSeq, ite_self]

@[simp] theorem State.unloadDone_outsideSeq (s : State) (g : Fin 8) :
    (s.unloadDone g).outsideSeq = s.outsideSeq := by
  simp only [State.unloadDone, State.genOrder_outsideSeq, State.stopSup_outsideSeq, apply_ite State.outsideSeq, ite_self]

@[simp] theorem State.seqEnterCommissioning_outsideSeq (s : State) :
    s.seqEnterCommissioning.outsideSeq = s.outsideSeq := by
  simp only [State.seqEnterCommissioning, State.withdraw_outsideSeq]

@[simp] theorem State.clearLockout_outsideSeq (s : State) (g : Fin 8) :
    (s.clearLockout g).outsideSeq = s.outsideSeq := by
  simp only [State.clearLockout, State.modGen_outsideSeq, State.enterNotReady_outsideSeq]

@[simp] theorem State.releaseLockouts_outsideSeq (s : State) :
    s.releaseLockouts.outsideSeq = s.outsideSeq := by
  unfold State.releaseLockouts
  try dsimp only
  repeat' first
    | with_reducible rfl
    | simp only [State.clearLockout_outsideSeq]
    | (refine forEach_outsideSeq _ (fun _ _ => ?_) _ _)
    | (refine Eq.trans (forEach_outsideSeq _ (fun _ _ => ?_) _ _) ?_)
    | split

@[simp] theorem State.genClearDown_outsideSeq (s : State) :
    s.genClearDown.outsideSeq = s.outsideSeq := by
  unfold State.genClearDown
  try dsimp only
  repeat' first
    | with_reducible rfl
    | simp only [State.genNewOrder_outsideSeq, State.enterHot_outsideSeq]
    | (refine forEach_outsideSeq _ (fun _ _ => ?_) _ _)
    | (refine Eq.trans (forEach_outsideSeq _ (fun _ _ => ?_) _ _) ?_)
    | split

@[simp] theorem State.genAbandon_outsideSeq (s : State) :
    s.genAbandon.outsideSeq = s.outsideSeq := by
  unfold State.genAbandon
  try dsimp only
  repeat' first
    | with_reducible rfl
    | simp only [State.modGen_outsideSeq, State.enterHot_outsideSeq]
    | (refine forEach_outsideSeq _ (fun _ _ => ?_) _ _)
    | (refine Eq.trans (forEach_outsideSeq _ (fun _ _ => ?_) _ _) ?_)
    | split

@[simp] theorem State.genSettled_outsideSeq (s : State) :
    s.genSettled.outsideSeq = s.outsideSeq := by
  unfold State.genSettled
  try dsimp only
  repeat' first
    | with_reducible rfl
    | simp only [State.modGen_outsideSeq]
    | (refine forEach_outsideSeq _ (fun _ _ => ?_) _ _)
    | (refine Eq.trans (forEach_outsideSeq _ (fun _ _ => ?_) _ _) ?_)
    | split

@[simp] theorem State.energizeFailure_outsideSeq (s : State) :
    s.energizeFailure.outsideSeq = s.outsideSeq := by
  unfold State.energizeFailure
  try dsimp only
  repeat' first
    | with_reducible rfl
    | simp only [State.failedClose_outsideSeq]
    | (refine forEach_outsideSeq _ (fun _ _ => ?_) _ _)
    | (refine Eq.trans (forEach_outsideSeq _ (fun _ _ => ?_) _ _) ?_)
    | split

@[simp] theorem State.adoptGen_outsideSeq (s : State) (g : Fin 8) :
    (s.adoptGen g).outsideSeq = s.outsideSeq := by
  unfold State.adoptGen
  repeat' first
    | with_reducible rfl
    | simp only [State.modGen_outsideSeq, State.genNone_outsideSeq, State.setGenState_outsideSeq, State.enterNotReady_outsideSeq, State.enterStandby_outsideSeq, State.enterStopping_outsideSeq, State.enterCooldown_outsideSeq]
    | split

@[simp] theorem State.genAdopt_outsideSeq (s : State) :
    s.genAdopt.outsideSeq = s.outsideSeq := by
  unfold State.genAdopt
  try dsimp only
  repeat' first
    | with_reducible rfl
    | simp only [State.adoptGen_outsideSeq]
    | (refine forEach_outsideSeq _ (fun _ _ => ?_) _ _)
    | (refine Eq.trans (forEach_outsideSeq _ (fun _ _ => ?_) _ _) ?_)
    | split

@[simp] theorem State.endStart_outsideSeq (s : State) (g : Fin 8) :
    (s.endStart g).outsideSeq = s.outsideSeq := by
  unfold State.endStart
  split <;> simp only [State.enterStopping_outsideSeq, State.enterHot_outsideSeq]

@[simp] theorem endStarts_outsideSeq (n : Nat) (s : State) :
    (endStarts n s).outsideSeq = s.outsideSeq := by
  induction n generalizing s with
  | zero => rfl
  | succ n ih =>
    simp only [endStarts]
    split
    · rfl
    · split
      · rfl
      · rw [ih, State.endStart_outsideSeq]

end Sys2Proof.Machine
end

