-- ==== Sys2Proof/Laws/OutsideShed.lean ====
section
/-! SUPPORT. The outbound entries, the notice flags and the shedding unit touch no other job: one lemma for each
operation. -/

namespace Sys2Proof.Machine

/-- What the shedding unit leaves alone of the other jobs. -/
def State.outsideShed (s : State) : Balance × Curtailment × Sequencer × BlackStart :=
  (s.bal, s.cur, s.seq, s.bs)

theorem outsideShed_shed (s : State) (x : Shedding) : State.outsideShed { s with shed := x } = s.outsideShed := rfl
theorem outsideShed_sum (s : State) (x : Summary) : State.outsideShed { s with sum := x } = s.outsideShed := rfl

theorem forEach_outsideShed {ι : Type} (f : ι → State → State)
    (h : ∀ i s, (f i s).outsideShed = s.outsideShed) (is : List ι) (s : State) :
    (forEach is f s).outsideShed = s.outsideShed := by
  induction is generalizing s with
  | nil => rfl
  | cons i is ih => exact (ih (f i s)).trans (h i s)

@[simp] theorem State.modFdr_outsideShed (s : State) (i : Fin 32) (f : FdrJob → FdrJob) :
    (s.modFdr i f).outsideShed = s.outsideShed := rfl

@[simp] theorem State.nextSeq_outsideShed (s : State) :
    s.nextSeq.outsideShed = s.outsideShed := rfl

@[simp] theorem State.cutOrders_outsideShed (s : State) (sel : Addr → Byte → Bool) :
    (s.cutOrders sel).outsideShed = s.outsideShed := rfl

@[simp] theorem State.place_outsideShed (s : State) (a : Addr) (code : OrderCode) (tag : Byte)
    (cap : Nat) (cls : OrderClass) :
    (s.place a code tag cap cls).outsideShed = s.outsideShed := rfl

@[simp] theorem State.emptySlot_outsideShed (s : State) (a : Addr) :
    (s.emptySlot a).outsideShed = s.outsideShed := rfl

@[simp] theorem State.placeFor_outsideShed (s : State) (u : UnitRef) (code : OrderCode)
    (tag : Byte) (cap : Nat) (cls : OrderClass) :
    (s.placeFor u code tag cap cls).outsideShed = s.outsideShed := by
  unfold State.placeFor
  split <;> simp only [State.place_outsideShed]

@[simp] theorem State.emptyFor_outsideShed (s : State) (u : UnitRef) :
    (s.emptyFor u).outsideShed = s.outsideShed := by
  unfold State.emptyFor
  split <;> simp only [State.emptySlot_outsideShed]

@[simp] theorem State.withdraw_outsideShed (s : State) (codes : List OrderCode) :
    (s.withdraw codes).outsideShed = s.outsideShed := by
  unfold State.withdraw
  try dsimp only
  repeat' first
    | with_reducible rfl
    | simp only [State.emptySlot_outsideShed]
    | (refine forEach_outsideShed _ (fun _ _ => ?_) _ _)
    | (refine Eq.trans (forEach_outsideShed _ (fun _ _ => ?_) _ _) ?_)
    | split

@[simp] theorem State.fillNotice_outsideShed (s : State) :
    s.fillNotice.outsideShed = s.outsideShed := rfl

@[simp] theorem State.raise_outsideShed (s : State) (f : Flag) :
    (s.raise f).outsideShed = s.outsideShed := by
  simp only [State.raise, outsideShed_sum, State.fillNotice_outsideShed, apply_ite State.outsideShed, ite_self]

@[simp] theorem State.fdrNone_outsideShed (s : State) (i : Fin 32) :
    (s.fdrNone i).outsideShed = s.outsideShed := by
  simp only [State.fdrNone, State.modFdr_outsideShed, State.emptyFor_outsideShed]

@[simp] theorem State.fdrOrder_outsideShed (s : State) (i : Fin 32) (code : OrderCode)
    (cls : OrderClass) :
    (s.fdrOrder i code cls).outsideShed = s.outsideShed := by
  simp only [State.fdrOrder, State.modFdr_outsideShed, State.placeFor_outsideShed]

@[simp] theorem State.setFdrState_outsideShed (s : State) (i : Fin 32) (x : FdrState) :
    (s.setFdrState i x).outsideShed = s.outsideShed := rfl

@[simp] theorem State.stopConfirm_outsideShed (s : State) (i : Fin 32) :
    (s.stopConfirm i).outsideShed = s.outsideShed := rfl

@[simp] theorem State.startConfirm_outsideShed (s : State) (i : Fin 32) :
    (s.startConfirm i).outsideShed = s.outsideShed := rfl

@[simp] theorem State.unstack_outsideShed (s : State) (i : Fin 32) :
    (s.unstack i).outsideShed = s.outsideShed := rfl

@[simp] theorem State.takeFeeder_outsideShed (s : State) (i : Fin 32) (reason : ShedReason) :
    (s.takeFeeder i reason).outsideShed = s.outsideShed := by
  simp only [State.takeFeeder, outsideShed_shed, State.fdrOrder_outsideShed, State.setFdrState_outsideShed, State.startConfirm_outsideShed]

@[simp] theorem State.endWalk_outsideShed (s : State) (reason : ShedReason) (short took : Bool) :
    (s.endWalk reason short took).outsideShed = s.outsideShed := by
  simp only [State.endWalk, State.raise_outsideShed, apply_ite State.outsideShed, ite_self]

@[simp] theorem walk_outsideShed (q : Int) (reason : ShedReason) (is : List (Fin 32)) (sum : Int)
    (took : Bool) (s : State) : (walk q reason is sum took s).outsideShed = s.outsideShed := by
  induction is generalizing sum took s with
  | nil => simp only [walk, State.endWalk_outsideShed]
  | cons i is ih =>
    simp only [walk]
    split
    · simp only [State.endWalk_outsideShed]
    · split
      · rw [ih, State.takeFeeder_outsideShed]
      · rw [ih]

@[simp] theorem State.demand_outsideShed (s : State) (q : Int) (reason : ShedReason) :
    (s.demand q reason).outsideShed = s.outsideShed := by
  simp only [State.demand, walk_outsideShed]

@[simp] theorem State.reducedDemand_outsideShed (s : State) (q : Int) (reason : ShedReason) :
    (s.reducedDemand q reason).outsideShed = s.outsideShed := by
  simp only [State.reducedDemand, State.demand_outsideShed, apply_ite State.outsideShed, ite_self]

@[simp] theorem State.fireStage_outsideShed (s : State) (n : Fin 6) :
    (s.fireStage n).outsideShed = s.outsideShed := by
  simp only [State.fireStage, outsideShed_shed, State.raise_outsideShed, State.demand_outsideShed, apply_ite State.outsideShed, ite_self]

@[simp] theorem State.endEvent_outsideShed (s : State) :
    s.endEvent.outsideShed = s.outsideShed := rfl

@[simp] theorem State.endUf_outsideShed (s : State) :
    s.endUf.outsideShed = s.outsideShed := rfl

@[simp] theorem State.judgeStages_outsideShed (s : State) (d : Int) :
    (s.judgeStages d).outsideShed = s.outsideShed := rfl

@[simp] theorem State.beginEvent_outsideShed (s : State) :
    s.beginEvent.outsideShed = s.outsideShed := rfl

@[simp] theorem State.judgeRecovery_outsideShed (s : State) (d : Int) :
    (s.judgeRecovery d).outsideShed = s.outsideShed := by
  unfold State.judgeRecovery
  repeat' first
    | with_reducible rfl
    | simp only [outsideShed_shed, State.endEvent_outsideShed]
    | split

@[simp] theorem State.judgeDwell_outsideShed (s : State) (d : Int) :
    (s.judgeDwell d).outsideShed = s.outsideShed := by
  simp only [State.judgeDwell, outsideShed_shed, apply_ite State.outsideShed, ite_self]

@[simp] theorem State.beginRestore_outsideShed (s : State) (i : Fin 32) :
    (s.beginRestore i).outsideShed = s.outsideShed := by
  simp only [State.beginRestore, outsideShed_shed, State.fdrOrder_outsideShed, State.setFdrState_outsideShed, State.startConfirm_outsideShed]

@[simp] theorem State.judgeRestore_outsideShed (s : State) :
    s.judgeRestore.outsideShed = s.outsideShed := by
  unfold State.judgeRestore
  repeat' first
    | with_reducible rfl
    | simp only [State.beginRestore_outsideShed]
    | split

@[simp] theorem State.shedBusTap_outsideShed (s : State) (d : Int) :
    (s.shedBusTap d).outsideShed = s.outsideShed := by
  unfold State.shedBusTap
  try dsimp only
  repeat' first
    | with_reducible rfl
    | simp only [State.fireStage_outsideShed, State.judgeStages_outsideShed, State.beginEvent_outsideShed, State.judgeRecovery_outsideShed, State.judgeDwell_outsideShed, State.judgeRestore_outsideShed]
    | (refine forEach_outsideShed _ (fun _ _ => ?_) _ _)
    | (refine Eq.trans (forEach_outsideShed _ (fun _ _ => ?_) _ _) ?_)
    | split

@[simp] theorem State.shedBusLate_outsideShed (s : State) :
    s.shedBusLate.outsideShed = s.outsideShed := rfl

@[simp] theorem State.shedBusLost_outsideShed (s : State) :
    s.shedBusLost.outsideShed = s.outsideShed := rfl

@[simp] theorem State.externalClose_outsideShed (s : State) (i : Fin 32) :
    (s.externalClose i).outsideShed = s.outsideShed := by
  simp only [State.externalClose, State.raise_outsideShed, State.fdrNone_outsideShed, State.setFdrState_outsideShed]

@[simp] theorem State.fdrShowsOpen_outsideShed (s : State) (i : Fin 32) :
    (s.fdrShowsOpen i).outsideShed = s.outsideShed := by
  unfold State.fdrShowsOpen
  split <;> simp only [State.modFdr_outsideShed, State.setFdrState_outsideShed, State.stopConfirm_outsideShed]

@[simp] theorem State.fdrShowsClosed_outsideShed (s : State) (i : Fin 32) :
    (s.fdrShowsClosed i).outsideShed = s.outsideShed := by
  unfold State.fdrShowsClosed
  repeat' first
    | with_reducible rfl
    | simp only [State.fdrNone_outsideShed, State.setFdrState_outsideShed, State.stopConfirm_outsideShed, State.unstack_outsideShed, State.externalClose_outsideShed]
    | split

@[simp] theorem State.fdrEcho_outsideShed (s : State) (i : Fin 32) (v : FdrValues) :
    (s.fdrEcho i v).outsideShed = s.outsideShed := by
  simp only [State.fdrEcho, State.modFdr_outsideShed, State.placeFor_outsideShed, State.raise_outsideShed, apply_ite State.outsideShed, ite_self]

@[simp] theorem State.shedFdrTap_outsideShed (s : State) (i : Fin 32) :
    (s.shedFdrTap i).outsideShed = s.outsideShed := by
  unfold State.shedFdrTap
  repeat' first
    | with_reducible rfl
    | simp only [State.fdrShowsOpen_outsideShed, State.fdrShowsClosed_outsideShed, State.fdrEcho_outsideShed]
    | split

@[simp] theorem State.stick_outsideShed (s : State) (i : Fin 32) :
    (s.stick i).outsideShed = s.outsideShed := by
  simp only [State.stick, State.raise_outsideShed, State.fdrNone_outsideShed, State.setFdrState_outsideShed, State.stopConfirm_outsideShed]

@[simp] theorem State.reShed_outsideShed (s : State) (e : StackEntry) :
    (s.reShed e).outsideShed = s.outsideShed := by
  simp only [State.reShed, outsideShed_shed, State.demand_outsideShed, apply_ite State.outsideShed, ite_self]

@[simp] theorem State.confirmExpiry_outsideShed (s : State) (i : Fin 32) :
    (s.confirmExpiry i).outsideShed = s.outsideShed := by
  unfold State.confirmExpiry
  repeat' first
    | with_reducible rfl
    | simp only [State.stopConfirm_outsideShed, State.unstack_outsideShed, State.stick_outsideShed, State.reShed_outsideShed]
    | split

@[simp] theorem State.withdrawClose_outsideShed (s : State) (i : Fin 32) :
    (s.withdrawClose i).outsideShed = s.outsideShed := by
  unfold State.withdrawClose
  repeat' first
    | with_reducible rfl
    | simp only [State.fdrNone_outsideShed, State.setFdrState_outsideShed, State.stopConfirm_outsideShed]
    | split

@[simp] theorem State.shedEnterCommissioning_outsideShed (s : State) :
    s.shedEnterCommissioning.outsideShed = s.outsideShed := 
  (forEach_outsideShed _ (fun i s => State.withdrawClose_outsideShed s i) _ _).trans (State.withdraw_outsideShed _ _)

@[simp] theorem State.discardEntry_outsideShed (s : State) (e : StackEntry) :
    (s.discardEntry e).outsideShed = s.outsideShed := by
  simp only [State.discardEntry, State.fdrNone_outsideShed, State.setFdrState_outsideShed, State.stopConfirm_outsideShed]

@[simp] theorem State.emptyStack_outsideShed (s : State) :
    s.emptyStack.outsideShed = s.outsideShed := by
  unfold State.emptyStack
  try dsimp only
  repeat' first
    | with_reducible rfl
    | simp only [outsideShed_shed, State.discardEntry_outsideShed]
    | (refine forEach_outsideShed _ (fun _ _ => ?_) _ _)

@[simp] theorem State.holdOpen_outsideShed (s : State) (i : Fin 32) :
    (s.holdOpen i).outsideShed = s.outsideShed := by
  simp only [State.holdOpen, State.modFdr_outsideShed, State.fdrOrder_outsideShed, State.setFdrState_outsideShed, State.stopConfirm_outsideShed]

@[simp] theorem State.shedClearDown_outsideShed (s : State) :
    s.shedClearDown.outsideShed = s.outsideShed := by
  unfold State.shedClearDown
  try dsimp only
  repeat' first
    | with_reducible rfl
    | simp only [State.emptyStack_outsideShed, State.holdOpen_outsideShed]
    | (refine forEach_outsideShed _ (fun _ _ => ?_) _ _)
    | (refine Eq.trans (forEach_outsideShed _ (fun _ _ => ?_) _ _) ?_)
    | split

@[simp] theorem State.shedSettle_outsideShed (s : State) :
    s.shedSettle.outsideShed = s.outsideShed := by
  unfold State.shedSettle
  try dsimp only
  repeat' first
    | with_reducible rfl
    | simp only [State.raise_outsideShed, State.fdrNone_outsideShed, State.setFdrState_outsideShed]
    | (refine forEach_outsideShed _ (fun _ _ => ?_) _ _)
    | (refine Eq.trans (forEach_outsideShed _ (fun _ _ => ?_) _ _) ?_)
    | split

@[simp] theorem State.shedStepClose_outsideShed (s : State) (is : List (Fin 32)) :
    (s.shedStepClose is).outsideShed = s.outsideShed := by
  unfold State.shedStepClose
  try dsimp only
  repeat' first
    | with_reducible rfl
    | simp only [State.fdrOrder_outsideShed, State.startConfirm_outsideShed]
    | (refine forEach_outsideShed _ (fun _ _ => ?_) _ _)
    | (refine Eq.trans (forEach_outsideShed _ (fun _ _ => ?_) _ _) ?_)
    | split

@[simp] theorem State.shedRelease_outsideShed (s : State) :
    s.shedRelease.outsideShed = s.outsideShed := by
  unfold State.shedRelease
  try dsimp only
  repeat' first
    | with_reducible rfl
    | simp only [State.fdrNone_outsideShed, State.setFdrState_outsideShed, State.stopConfirm_outsideShed]
    | (refine forEach_outsideShed _ (fun _ _ => ?_) _ _)
    | (refine Eq.trans (forEach_outsideShed _ (fun _ _ => ?_) _ _) ?_)
    | split

@[simp] theorem State.shedAdopt_outsideShed (s : State) :
    s.shedAdopt.outsideShed = s.outsideShed := by
  unfold State.shedAdopt
  try dsimp only
  repeat' first
    | with_reducible rfl
    | simp only [State.fdrNone_outsideShed, State.setFdrState_outsideShed, State.stopConfirm_outsideShed, State.emptyStack_outsideShed]
    | (refine forEach_outsideShed _ (fun _ _ => ?_) _ _)
    | (refine Eq.trans (forEach_outsideShed _ (fun _ _ => ?_) _ _) ?_)
    | split

end Sys2Proof.Machine
end

