-- ==== Sys2Proof/Laws/PerInstr.lean ====
section
/-! SUPPORT. Statements made of every command, one lemma for each constructor. -/

namespace Sys2Proof.Laws.StationBounds

/-- A command is well-formed exactly when the station that it names, if it names one, is one of 0 to 62
and its argument bytes fit a directive's payload (R2, 11.4). -/
def Statement (i : Instr) : Prop :=
  i.wf = true ↔ (∀ a, i.station = some a → a.val < 63) ∧ i.args.length ≤ 46

/-- A command that names no station and carries no arguments. -/
theorem of_none {i : Instr} (hw : i.wf = true) (hs : i.station = none) (ha : i.args = []) :
    Statement i := by
  unfold Statement
  rw [hw, hs, ha]
  exact ⟨fun _ => ⟨fun _ h => (by cases h), Nat.zero_le _⟩, fun _ => rfl⟩

/-- A directive. -/
theorem of_directive {i : Instr} (src : Addr) (args : List Byte)
    (hw : i.wf = directiveWf src args) (hs : i.station = some src) (ha : i.args = args) :
    Statement i := by
  unfold Statement
  rw [hw, hs, ha]
  constructor
  · intro h
    have h := Bool.and_eq_true_iff.mp h
    exact ⟨fun a e => Option.some.inj e ▸ of_decide_eq_true h.1, of_decide_eq_true h.2⟩
  · intro h
    exact Bool.and_eq_true_iff.mpr ⟨decide_eq_true (h.1 src rfl), decide_eq_true h.2⟩

theorem powerUpOrPinReset (strap : Addr) (mntHigh : Bool) :
    Statement (.powerUpOrPinReset strap mntHigh) :=
  of_none rfl rfl rfl

theorem frameReceive (p : Port) (f : RxFrame) :
    Statement (.frameReceive p f) :=
  of_none rfl rfl rfl

theorem readTable (src : Addr) (token : Byte) (args : List Byte) :
    Statement (.readTable src token args) :=
  of_directive _ _ rfl rfl rfl

theorem writeTable (src : Addr) (token : Byte) (args : List Byte) :
    Statement (.writeTable src token args) :=
  of_directive _ _ rfl rfl rfl

theorem clearShadow (src : Addr) (token : Byte) (args : List Byte) :
    Statement (.clearShadow src token args) :=
  of_directive _ _ rfl rfl rfl

theorem commit (src : Addr) (token : Byte) (args : List Byte) :
    Statement (.commit src token args) :=
  of_directive _ _ rfl rfl rfl

theorem readStatus (src : Addr) (token : Byte) (args : List Byte) :
    Statement (.readStatus src token args) :=
  of_directive _ _ rfl rfl rfl

theorem ackNotices (src : Addr) (token : Byte) (args : List Byte) :
    Statement (.ackNotices src token args) :=
  of_directive _ _ rfl rfl rfl

theorem readUnit (src : Addr) (token : Byte) (args : List Byte) :
    Statement (.readUnit src token args) :=
  of_directive _ _ rfl rfl rfl

theorem readBalance (src : Addr) (token : Byte) (args : List Byte) :
    Statement (.readBalance src token args) :=
  of_directive _ _ rfl rfl rfl

theorem readStack (src : Addr) (token : Byte) (args : List Byte) :
    Statement (.readStack src token args) :=
  of_directive _ _ rfl rfl rfl

theorem setMode (src : Addr) (token : Byte) (args : List Byte) :
    Statement (.setMode src token args) :=
  of_directive _ _ rfl rfl rfl

theorem clearLockout (src : Addr) (token : Byte) (args : List Byte) :
    Statement (.clearLockout src token args) :=
  of_directive _ _ rfl rfl rfl

theorem blackStart (src : Addr) (token : Byte) (args : List Byte) :
    Statement (.blackStart src token args) :=
  of_directive _ _ rfl rfl rfl

theorem abandon (src : Addr) (token : Byte) (args : List Byte) :
    Statement (.abandon src token args) :=
  of_directive _ _ rfl rfl rfl

theorem restart (src : Addr) (token : Byte) (args : List Byte) :
    Statement (.restart src token args) :=
  of_directive _ _ rfl rfl rfl

theorem lossOfSignal (p : Port) :
    Statement (.lossOfSignal p) :=
  of_none rfl rfl rfl

theorem errorWindowExpiry (p : Port) :
    Statement (.errorWindowExpiry p) :=
  of_none rfl rfl rfl

theorem forwardTransmitDone (p : Port) :
    Statement (.forwardTransmitDone p) :=
  of_none rfl rfl rfl

theorem insertionOpportunity (p : Port) :
    Statement (.insertionOpportunity p) :=
  of_none rfl rfl rfl

theorem insertionComplete (p : Port) :
    Statement (.insertionComplete p) :=
  of_none rfl rfl rfl

theorem lostTimerExpiry (src : Addr) :
    Statement (.lostTimerExpiry src) :=
  ⟨fun h => ⟨fun _ e => Option.some.inj e ▸ of_decide_eq_true h, Nat.zero_le _⟩,
   fun h => decide_eq_true (h.1 src rfl)⟩

theorem lateTimerExpiry (u : UnitRef) :
    Statement (.lateTimerExpiry u) :=
  of_none rfl rfl rfl

theorem roundTimerExpiry :
    Statement .roundTimerExpiry :=
  of_none rfl rfl rfl

theorem crankTimerExpiry (g : Fin 8) :
    Statement (.crankTimerExpiry g) :=
  of_none rfl rfl rfl

theorem restTimerExpiry (g : Fin 8) :
    Statement (.restTimerExpiry g) :=
  of_none rfl rfl rfl

theorem warmTimerExpiry (g : Fin 8) :
    Statement (.warmTimerExpiry g) :=
  of_none rfl rfl rfl

theorem hotTimerExpiry (g : Fin 8) :
    Statement (.hotTimerExpiry g) :=
  of_none rfl rfl rfl

theorem syncTimerExpiry (g : Fin 8) :
    Statement (.syncTimerExpiry g) :=
  of_none rfl rfl rfl

theorem minRunTimerExpiry (g : Fin 8) :
    Statement (.minRunTimerExpiry g) :=
  of_none rfl rfl rfl

theorem unloadTimerExpiry (g : Fin 8) :
    Statement (.unloadTimerExpiry g) :=
  of_none rfl rfl rfl

theorem coolTimerExpiry (g : Fin 8) :
    Statement (.coolTimerExpiry g) :=
  of_none rfl rfl rfl

theorem stopTimerExpiry (g : Fin 8) :
    Statement (.stopTimerExpiry g) :=
  of_none rfl rfl rfl

theorem confirmTimerExpiry (f : Fin 32) :
    Statement (.confirmTimerExpiry f) :=
  of_none rfl rfl rfl

theorem stageDelayExpiry (n : Fin 6) :
    Statement (.stageDelayExpiry n) :=
  of_none rfl rfl rfl

theorem recoverTimerExpiry :
    Statement .recoverTimerExpiry :=
  of_none rfl rfl rfl

theorem restoreDwellExpiry :
    Statement .restoreDwellExpiry :=
  of_none rfl rfl rfl

theorem restoreIntervalExpiry :
    Statement .restoreIntervalExpiry :=
  of_none rfl rfl rfl

theorem secondsCountTick :
    Statement .secondsCountTick :=
  of_none rfl rfl rfl

theorem surveyTimerExpiry :
    Statement .surveyTimerExpiry :=
  of_none rfl rfl rfl

theorem clearDownTimerExpiry :
    Statement .clearDownTimerExpiry :=
  of_none rfl rfl rfl

theorem blackStartLimitExpiry :
    Statement .blackStartLimitExpiry :=
  of_none rfl rfl rfl

theorem energizeTimerExpiry :
    Statement .energizeTimerExpiry :=
  of_none rfl rfl rfl

theorem stepIntervalExpiry :
    Statement .stepIntervalExpiry :=
  of_none rfl rfl rfl

theorem capacityHoldExpiry :
    Statement .capacityHoldExpiry :=
  of_none rfl rfl rfl

theorem pvHoldExpiry :
    Statement .pvHoldExpiry :=
  of_none rfl rfl rfl

theorem pvGapExpiry :
    Statement .pvGapExpiry :=
  of_none rfl rfl rfl

theorem storeSaveDone :
    Statement .storeSaveDone :=
  of_none rfl rfl rfl

theorem mntLineLow :
    Statement .mntLineLow :=
  of_none rfl rfl rfl

theorem mntLineHigh :
    Statement .mntLineHigh :=
  of_none rfl rfl rfl

theorem pulseTimerExpiry :
    Statement .pulseTimerExpiry :=
  of_none rfl rfl rfl

theorem trainTimerExpiry :
    Statement .trainTimerExpiry :=
  of_none rfl rfl rfl

theorem lineModeTimerExpiry :
    Statement .lineModeTimerExpiry :=
  of_none rfl rfl rfl

end Sys2Proof.Laws.StationBounds
end

