-- ==== Sys2Proof/Tests/Slice0.lean ====
section
/-! SUPPORT. Tests of single steps against the manual's worked sequences, ill-formed commands, and for
each statement of the provers a state and operands that meet its hypotheses. -/

namespace Sys2Proof.Tests

open Sys2Proof Sys2Proof.Machine

-- One theorem after the other: each waits for the kernel, and many waiting at once take many threads.
set_option Elab.async false

/-! ## Helpers -/

/-- The state after a command. -/
def after (c : Instr) (s : State) : State :=
  match exec c s with
  | .next t => t
  | .fault _ | .refused _ => s

def rxOf (f : Frame) : RxFrame := ⟨false, true, true, f.bytes⟩

/-- A frame from station `src` to station `dst` with hop count 20. -/
def frameOf (dst src : Nat) (kind seq : Byte) (payload : List Byte) : Frame :=
  ⟨byte dst, byte src, 20, kind, seq, payload⟩

def genCfgOf (rank rating minLoad : Nat) : GenCfg :=
  { GenCfg.empty with
    configured := true, rating := rating, minLoad := minLoad, startRank := rank, eligible := true
    maxAttempts := 2, crankTime := 10, warmTime := 5, coolTime := 7 }

/-- Two sets, two PV blocks, two feeders and the bus meter. -/
def testBank : Bank :=
  { Bank.empty with
    station := ((((((((Vector.replicate 64 none).set 10 (some (.genset 0))).set 11
      (some (.genset 1))).set 20 (some (.pv 0))).set 21 (some (.pv 1))).set 30
      (some (.feeder 0))).set 31 (some (.feeder 1))).set 40 (some .busmeter))
    genset := ((Vector.replicate 8 GenCfg.empty).set 0 (genCfgOf 0 1200 360)).set 1
      (genCfgOf 1 800 240)
    pv := ((Vector.replicate 16 ⟨false, 100, 0, 0⟩).set 0 ⟨true, 500, 0, 1⟩).set 1
      ⟨true, 600, 1, 2⟩
    feeder := ((Vector.replicate 32 FdrCfg.empty).set 0 ⟨true, 1500, 100⟩).set 1
      ⟨true, 1000, 200⟩
    shedOrder := ((Vector.replicate 32 none).set 0 (some 1)).set 1 (some 0)
    stages := (Vector.replicate 6 StageCfg.empty).set 0 ⟨true, 500, 100, 150⟩ }

def upPort : PortState := { PortState.reset with cond := .up, window := some 1000 }

/-- A configured part in BALANCING, both ports UP, at address 5. -/
def base : State :=
  { State.reset with
    loop := { State.reset.loop with strap := 5, portE := upPort, portW := upPort, notice := none }
    bank := ⟨testBank, testBank, true, false, .none⟩
    bs := BlackStart.reset .balancing none }

/-- The same part in another island state. -/
def within (x : Island) (s : State) : State := { s with bs := { s.bs with island := x } }

def inMode (m : Mode) (s : State) : State := { s with mode := { s.mode with mode := m } }

/-- Set 0 in a state, its supervision timer running. -/
def setIn (x : GenState) (s : State) : State :=
  s.modGen 0 fun j => { j with state := x, sup := some 50, attempts := 1 }

def slotOf (c : OrderClass) (age : BitVec 32) : OrderSlot :=
  ⟨c, .open, 7, 0, 32, 40, age, Marks.both⟩

def withSlot (a : Addr) (o : OrderSlot) (s : State) : State :=
  { s with loop := { s.loop with orders := put s.loop.orders a (some o) } }

def answerOf (code : Byte) : Answer := ⟨1, code, 9, .done, false, [⟨32, 41, [], Marks.both⟩]⟩

def withAnswers (xs : List Answer) (s : State) : State :=
  { s with loop := { s.loop with answers := xs } }

def sending (r : EntryRef) (stale : Bool) (s : State) : State :=
  s.modPort .e fun x => { x with tx := .inserting r (frameOf 30 5 kindOrder 40 [7, 7, 0, 0]) stale }

/-! ## Well-formed commands -/

theorem test_wf_refuses_station_63 : (Instr.readStatus 63 0 []).wf = false := by decide
theorem test_wf_refuses_long_arguments :
    (Instr.writeTable 1 0 (List.replicate 47 0)).wf = false := by decide
theorem test_wf_takes_the_longest : (Instr.writeTable 62 0 (List.replicate 46 0)).wf = true := by
  decide
theorem test_wf_refuses_lost_timer_63 : (Instr.lostTimerExpiry 63).wf = false := by decide

/-- The table gives no row any bits. -/
theorem test_decode_refuses : decodeTableWord 8 3 = none := rfl

/-! ## Reset -/

theorem test_reset_is_first_power_up : State.reset = State.reset.poweredUp 0 true := rfl

theorem test_reset_runs : step State.reset = .next { State.reset with clock := 1 } := rfl

/-! ## The check and the loop (chapter 1) -/

/-- The published check value of this CRC over the digits 1 to 9. -/
theorem test_crc_check_value :
    crc16 [0x31, 0x32, 0x33, 0x34, 0x35, 0x36, 0x37, 0x38, 0x39] = 0x29B1#16 := by decide +kernel

/-- 2.6, steps 1 and 3: an output above the rating is clamped to it. -/
theorem test_gen_report_is_clamped :
    (((after (.frameReceive .e (rxOf (frameOf 5 10 kindGen 18
      ([2, 1, 1] ++ be16 1250 ++ [0, 0])))) base).genRec 0).vals.map
        fun v => (v.rawOut, v.out)) = some (1250, 1200) := by decide +kernel

/-- 2.6, step 2: the copy of a report is a repeat. -/
theorem test_copy_is_discarded :
    let f := rxOf (frameOf 5 10 kindGen 17 ([2, 1, 1] ++ be16 480 ++ [0, 0]))
    after (.frameReceive .w f) (after (.frameReceive .e f) base)
      = after (.frameReceive .e f) base := by decide +kernel

/-- 1.9, step 7: the older URGENT slot is chosen before the ROUTINE one. -/
theorem test_urgent_first :
    (((after (.insertionOpportunity .e) (withSlot 12 { slotOf .routine 99 with code := .start }
      (withSlot 22 (slotOf .urgent 100) base))).port .e).tx
      matches .inserting (.order 22) _ false) = true := by decide +kernel

/-! ## The worked dispatch (3.13, 4.6) -/

def dispatchBank : Bank :=
  { testBank with
    station := (((((Vector.replicate 64 none).set 30 (some (.pv 0))).set 31 (some (.pv 1))).set
      32 (some (.pv 2))).set 33 (some (.pv 3))).set 12 (some (.genset 2))
    genset := (((Vector.replicate 8 GenCfg.empty).set 0 (genCfgOf 0 1200 360)).set 1
      (genCfgOf 1 1200 360)).set 2 (genCfgOf 2 800 240)
    pv := ((((Vector.replicate 16 ⟨false, 100, 0, 0⟩).set 0 ⟨true, 1000, 0, 0⟩).set 1
      ⟨true, 800, 2, 1⟩).set 2 ⟨true, 500, 3, 2⟩).set 3 ⟨true, 600, 3, 3⟩ }

def genOf (out : Nat) : GenRec :=
  ⟨some ⟨.running, .closed, true, out, out, 0, 0⟩, some out, .fresh, none, 3, 0, 3, 0⟩

def pvOf (out av : Nat) (f : Freshness) : PvRec := ⟨some ⟨true, out, out, av, av, 0, 0, 0⟩, f, none⟩

def pvJobOf (cap : Nat) (tag : Byte) : PvJob :=
  { PvJob.reset with state := .on, order := .cap, cap := some cap, tag := tag, taken := true }

/-- The part before the first round of 3.13. -/
def dispatch : State :=
  { base with
    bank := ⟨dispatchBank, dispatchBank, true, false, .done⟩
    bal := { base.bal with rampBase := 1500 }
    seq := ⟨((base.seq.jobs.set 0 { GenJob.reset with state := .online, minRun := .expired }).set
      1 { GenJob.reset with state := .online, minRun := .expired }).set 2
      { GenJob.reset with state := .standby }, []⟩
    cur := { base.cur with
      jobs := (((base.cur.jobs.set 0 (pvJobOf 1000 3)).set 1 (pvJobOf 800 4)).set 2
        (pvJobOf 400 5)).set 3 (pvJobOf 600 2) }
    pic := { base.pic with
      gen := (base.pic.gen.set 0 (genOf 500)).set 1 (genOf 480)
      pv := (((base.pic.pv.set 0 (pvOf 600 900 .fresh)).set 1 (pvOf 500 700 .fresh)).set 2
        (pvOf 400 450 .fresh)).set 3 (pvOf 100 100 .lost) } }

def round1 : State := after .roundTimerExpiry dispatch

/-- 3.13, round 1: X_cmd, the margin, and the stop test of G1. -/
theorem test_round_figures :
    round1.bal.fig.xCmd = 1700 ∧ round1.bal.fig.m = 600 ∧
    round1.bal.fig.stop = some ⟨1200, 2050, 430, 1160, -390⟩ := by decide +kernel

/-- 4.6: the fractions, the allotment sum, U and the new cap of S2. -/
theorem test_round_allocation :
    round1.cur.fractions = #v[1000, 1000, 1000, 222] ∧ round1.cur.sum = 1699 ∧
    round1.cur.u = 351 ∧ (round1.pv 2).cap = some 99 ∧ (round1.pv 2).tag = 6 := by decide +kernel

/-! ## Layouts (11.4, 11.5) -/

theorem test_image_is_818_bytes : testBank.image.length = 818 := by decide +kernel

theorem test_parameter_bytes : testBank.readRecord 8 6 = [1, 63] := by decide +kernel

theorem test_parameter_is_clamped :
    (testBank.writeRecord 8 0 [0, 9]).map (fun w => (w.bank.qualCount, w.clamped))
      = some (8, true) := by decide +kernel

theorem test_empty_stack_reads_22_bytes : base.stackData.length = 22 := by decide +kernel

/-! ## Witnesses: for each statement with hypotheses, states and operands that meet them, clause by
clause, at boundary values -/

theorem exec_after (c : Instr) (s : State) : exec c s = .next (after c s) := by cases c <;> rfl

theorem witness_StepRunsFrontCommand :
    { base with pending := [.mntLineLow, .mntLineHigh] }.pending = [.mntLineLow, .mntLineHigh] ∧
    base.pending = [] := ⟨rfl, rfl⟩

/-- A train of `n` pulses about to end. -/
def trainOf (n : Nat) (s : State) : State :=
  { s with mode := { s.mode with train := some 600, trainCount := n, lineTimer := some 700 } }

theorem witness_CommandsKeepTheQueue :
    exec .trainTimerExpiry (trainOf 5 base) = .next (after .trainTimerExpiry (trainOf 5 base)) ∧
    (trainOf 5 base).mode.mode ≠ .commissioning ∧
    (after .trainTimerExpiry (trainOf 5 base)).mode.mode = .commissioning :=
  ⟨exec_after _ _, by decide +kernel, by decide +kernel⟩

/-- A part that has saved `testBank`. -/
def saved : State :=
  { base with store := ⟨.valid, true, testBank.image, crc16 testBank.image⟩ }

theorem witness_PowerUpLoadsTheStore :
    (saved.store.whole = true ∧ saved.store.check = crc16 saved.store.image ∧
      ((Bank.ofImage saved.store.image).map fun b => b.commitCheck (some 5)) = some none) ∧
    base.store.whole = false := 
  ⟨⟨rfl, by simp only [saved], by decide +kernel⟩, rfl⟩

/-- A frame for a station that is not the part. -/
def passing (hop : Byte) : Frame := { frameOf 22 50 0x77 1 [1, 2, 3] with hop := hop }

theorem witness_ReceiveErrorsCountOnce :
    { rxOf (passing 2) with aborted := true }.aborted = true ∧
    (at8 [22, 50, 2, 0x77, 1, 49] 5).toNat = 49 ∧
    ({ rxOf (passing 2) with closing := false }.closing = false ∧
      (at8 (rxOf (passing 2)).bytes 5).toNat ≤ 48) ∧
    (let b := (passing 2).body ++ [0, 0]
     b.length = 8 + (at8 b 5).toNat ∧ (at8 b 1).toNat % 64 ≠ 63 ∧
       (crc16 (b.take (6 + (at8 b 5).toNat))).toNat ≠ at16 b (6 + (at8 b 5).toNat)) := by
  decide +kernel

theorem witness_ForwardingLowersTheHop :
    (rxJudge (rxOf (frameOf 22 5 0x77 1 [])) = .good (frameOf 22 5 0x77 1 []) ∧
      base.ownAddr = some (lowSix (frameOf 22 5 0x77 1 []).src)) ∧
    (rxJudge (rxOf (frameOf 5 62 0x77 1 [])) = .good (frameOf 5 62 0x77 1 []) ∧
      base.ownAddr ≠ some (lowSix 62) ∧ base.ownAddr = some (lowSix 5)) ∧
    (rxJudge (rxOf (frameOf 63 0 0x77 1 [])) = .good (frameOf 63 0 0x77 1 []) ∧
      base.ownAddr ≠ some (lowSix 0) ∧ base.ownAddr ≠ some (lowSix 63) ∧ (lowSix 63).val = 63) ∧
    (rxJudge (rxOf (passing 2)) = .good (passing 2) ∧ base.ownAddr ≠ some (lowSix 50) ∧
      base.ownAddr ≠ some (lowSix 22) ∧ (lowSix 22).val ≠ 63 ∧ isReport 0x77 = false) ∧
    ((passing 1).hop.toNat % 64 ≤ 1 ∧ 1 < (passing 2).hop.toNat % 64) ∧
    2 ≤ ((base.modPort .w fun x => { x with buffer := [passing 2, passing 2] }).port .w).buffer.length ∧
    ((base.modPort .w fun x => { x with buffer := [passing 2] }).port .w).buffer.length < 2 ∧
    ((base.modPort .e fun x => { x with tx := .forwarding, buffer := [passing 2] }).port .e).tx
      = .forwarding ∧
    (∀ f ∈ [frameOf 63 62 0x77 255 [], frameOf 0 0 kindGen 0 (List.replicate 48 7)],
      let rx := rxOf f
      let n := f.payload.length
      let b := fun k => rx.bytes.getD k 0
      n = (b 5).toNat ∧ rx.aborted = false ∧ rx.opening = true ∧ rx.closing = true ∧ n ≤ 48 ∧
        rx.bytes.length = 8 + n ∧ (b 1).toNat % 64 ≠ 63 ∧
        (crc16 (rx.bytes.take (6 + n))).toNat = (b (6 + n)).toNat * 256 + (b (7 + n)).toNat ∧
        f.src.toNat % 64 ≠ 63) := by decide +kernel

/-- 11.1: a frame of one payload byte is read by its fields. -/
theorem test_frame_bytes :
    (rxJudge ⟨false, true, true, [0x31, 0x32, 0x33, 0x34, 0x35, 1, 0xAA] ++
      be16 (crc16 [0x31, 0x32, 0x33, 0x34, 0x35, 1, 0xAA]).toNat⟩) =
      .good ⟨0x31, 0x32, 0x33, 0x34, 0x35, [0xAA]⟩ := by decide +kernel

theorem witness_GoodFramesBringThePortUp :
    rxJudge (rxOf (frameOf 22 5 0x77 1 [])) = .good (frameOf 22 5 0x77 1 []) ∧
    base.ownAddr = some (lowSix (frameOf 22 5 0x77 1 []).src) ∧
    (let s := base.modPort .e fun x => { x with cond := .down, goodCount := 1 }
     (s.port .e).cond = .down ∧ (s.port .e).goodCount + 1 < s.act.qualCount) ∧
    (let s := base.modPort .e fun x => { x with cond := .down, goodCount := 2 }
     (s.port .e).cond = .down ∧ s.act.qualCount ≤ (s.port .e).goodCount + 1) ∧
    ((base.port .e).cond ≠ .down ∧ (base.port .e).window = some 1000 ∧
      ¬ (base.act.errorLimit ≤ (base.port .e).errTotal)) ∧
    (let s := base.modPort .w fun x => { x with errTotal := 8 }
     (s.port .w).cond ≠ .down ∧ (s.port .w).window = some 1000 ∧
      s.act.errorLimit ≤ (s.port .w).errTotal) := by decide +kernel

theorem witness_LossOfSignalTakesThePortDown :
    (State.reset.port .e).cond = .down ∧ (base.port .e).cond ≠ .down := by decide +kernel

/-- An empty slot, a pending one, a station that is mapped; the ports both DOWN in the reset state. -/
theorem witness_OrdersFillTheirSlots :
    base.slot 30 = none ∧ (withSlot 30 (slotOf .routine 4294967295) base).slot 30 =
      some (slotOf .routine 4294967295) ∧
    base.act.stationOf (.genset 0) = some 10 ∧ base.act.stationOf (.genset 7) = none ∧
    (State.reset.loop.portE.cond = .down ∧ State.reset.loop.portW.cond = .down) := by decide +kernel

/-- An order table without entries has no slot that waits. -/
theorem no_slot_waits {s : State} (h : s.loop.orders = Vector.replicate 64 none) (p : Port)
    (c : OrderClass) : ¬ ∃ a o, s.Waits p c a o := by
  rintro ⟨a, o, h1, -, -⟩
  rw [State.slot, h] at h1
  simp at h1

theorem witness_InsertionTakesUrgentFirst :
    (State.reset.port .e).cond = .down ∧ ((base.port .e).cond ≠ .down ∧ (base.port .e).tx = .idle ∧ (base.port .e).buffer = [] ∧
      base.ownAddr = some 5 ∧ base.AgesFrom 0) ∧
    (let s := withSlot 22 (slotOf .urgent 4294967295) (withSlot 12 (slotOf .routine 0) base)
     s.AgesFrom 4294967295 ∧ s.Waits .e .urgent 22 (slotOf .urgent 4294967295)) ∧
    ((∀ p c, ¬ ∃ a o, (withAnswers [answerOf 5] base).Waits p c a o) ∧
      (withAnswers [answerOf 5] base).loop.answers.head? = some (answerOf 5) ∧
      (answerOf 5).segs[0]? = some ⟨32, 41, [], Marks.both⟩) ∧
    ((withSlot 12 (slotOf .routine 0) base).Waits .e .routine 12 (slotOf .routine 0) ∧
      (withSlot 12 (slotOf .routine 0) base).loop.answers.head? = none) ∧
    (base.fillNotice.loop.notice.map fun n => n.marks.on .e) = some true ∧
    (∃ (f : Frame) (two : Nat → List Byte) (header : Addr → Nat → Byte → Byte → Prop),
      (∀ n, two n = [BitVec.ofNat 8 (n / 256), BitVec.ofNat 8 n]) ∧
      (∀ dst hop kind seq, header dst hop kind seq ↔
        f.dst.toNat = dst.val ∧ f.src.toNat = (5 : Addr).val ∧ f.hop = BitVec.ofNat 8 hop ∧
        (hop ≤ 63 → f.hop.toNat = hop) ∧ f.kind = kind ∧ f.seq = seq) ∧
      f = OrderSlot.frame ⟨.urgent, .cap, 7, 4000, 63, 40, 0, Marks.both⟩ 5 62 ∧
      f.payload = [9, 7, 0x0F, 0xA0]) :=
  ⟨rfl, by decide +kernel, by decide +kernel, ⟨fun p c => no_slot_waits rfl p c, rfl, rfl⟩,
    by decide +kernel, by decide +kernel, _, _, _, fun _ => rfl, fun _ _ _ _ => Iff.rfl, rfl,
    by decide +kernel⟩

theorem witness_CompletionRemovesTheMark :
    ((sending (.order 30) true base).port .e).tx
      = .inserting (.order 30) (frameOf 30 5 kindOrder 40 [7, 7, 0, 0]) true ∧
    (let s := sending (.order 30) false (withSlot 30 (slotOf .urgent 0) base)
     (s.port .e).tx = .inserting (.order 30) (frameOf 30 5 kindOrder 40 [7, 7, 0, 0]) false ∧
       s.slot 30 = some (slotOf .urgent 0)) ∧
    (let s := sending (.answer 0) false (withAnswers [answerOf 5] base)
     s.loop.answers = [answerOf 5] ∧ ((answerOf 5).clearMark 0 .e).isDone = false) ∧
    (let s := sending (.answer 0) false (withAnswers [answerOf 14] base)
     s.loop.answers = [answerOf 14] ∧ (answerOf 14).result = .done ∧
       ((answerOf 14).clearMark 0 .e).isDone = false) ∧
    (let x : Answer := ⟨1, 5, 9, .done, false, [⟨32, 41, [], Marks.only .e⟩]⟩
     (sending (.answer 0) false (withAnswers [x] base)).loop.answers = [x] ∧
       (x.clearMark 0 .e).isDone = true) ∧
    (sending .notice false base.fillNotice).loop.notice.isSome = true := by decide +kernel

theorem witness_RestartWaitsForItsAnswer :
    (base.CanTake ∧ base.MayControl 1) ∧
    (let x : Answer := ⟨1, 14, 9, .done, false, [⟨32, 41, [], Marks.only .e⟩]⟩
     (sending (.answer 0) false (withAnswers [x] base)).loop.answers = [x] ∧ x.code = 14 ∧
       x.result = .done ∧ (x.clearMark 0 .e).isDone = true) := by decide +kernel

/-- The entry of a source with a last number. -/
def heard (i : Fin 63) (last : Byte) (s : State) : State :=
  { s with loop := { s.loop with dup := put s.loop.dup i ⟨true, last, some 700⟩ } }

/-- A GEN, SOL, FDR or BUS report of the units of `testBank`. -/
def genFrame : Frame := frameOf 5 10 kindGen 1 ([2, 1, 1] ++ be16 1201 ++ [0, 0])
def solFrame : Frame := frameOf 63 20 kindSol 1 ([1] ++ be16 500 ++ be16 499 ++ [9, 3] ++ be16 450)
def fdrFrame : Frame := frameOf 5 30 kindFdr 1 ([1] ++ be16 4001 ++ [0, 0])
def busFrame : Frame := frameOf 22 40 kindBus 1 (be16 65535 ++ be16 1501)

theorem witness_FilterJudgesByTheEntry :
    (rxJudge (rxOf (frameOf 5 1 kindDirective 128 [5, 9])) =
        .good (frameOf 5 1 kindDirective 128 [5, 9]) ∧ (base.port .e).cond ≠ .down ∧
      (lowSix 1).val = 1 ∧ base.ownAddr ≠ some (lowSix 1) ∧ base.ownAddr = some (lowSix 5)) ∧
    (rxJudge (rxOf (frameOf 63 1 kindDirective 128 [5, 9])) =
        .good (frameOf 63 1 kindDirective 128 [5, 9]) ∧ base.ownAddr ≠ none ∧
      (lowSix 63).val = 63 ∧ ∃ row ∈ directiveRows, row.code = 5) ∧
    (128 ≤ ((128 : Byte) - (heard 1 0 base).loop.dup[1].last).toNat) ∧
    (isReport 0x77 = false ∧ (0x77 : Byte) ≠ kindDirective) ∧
    (isReport kindGen = true ∧ (within .unconfigured base).bs.island = .unconfigured) ∧
    (let f := { genFrame with dst := 20 }
     rxJudge (rxOf f) = .good f ∧ (lowSix f.dst).val ≠ 63 ∧ base.ownAddr ≠ some (lowSix f.dst) ∧
       (heard 10 f.seq base).loop.dup[10].valid = true ∧
       (f.seq - (heard 10 f.seq base).loop.dup[10].last).toNat = 0) ∧
    (((128 : Byte) - (heard 1 1 base).loop.dup[1].last).toNat = 127 ∧ (heard 1 1 base).CanTake ∧
      14 < (15 : Byte).toNat ∧ [(5 : Byte)].length < 2) ∧
    ({ base with dir := { base.dir with window := true } }.dir.window = true ∧
      base.dir.window = false ∧
      4 ≤ (withAnswers [answerOf 5, answerOf 5, answerOf 5, answerOf 5] base).loop.answers.length) ∧
    (let f := { genFrame with src := 62 }
     base.Accepts .e (rxOf f) f 62 ∧ base.reportUnit (lowSix 62) f.kind = none) ∧
    (let f := { genFrame with payload := [4, 1, 1, 0, 0, 0, 0] }
     base.Accepts .e (rxOf f) f 10 ∧ base.reportUnit (lowSix 10) f.kind = some (.genset 0) ∧
       reportFormOk (.genset 0) f.payload = false) := by decide +kernel

/-- R26: engine code 3 and breaker code 1 are the last that a GEN report may hold. -/
theorem test_report_form :
    reportFormOk (.genset 0) [3, 1, 0, 0, 0, 0, 0] = true ∧
    reportFormOk (.genset 0) [3, 2, 0, 0, 0, 0, 0] = false := by decide +kernel

theorem witness_GenReportIsTapped :
    base.Taps .e (rxOf genFrame) genFrame 10 (.genset 0) := by decide +kernel

theorem witness_SolReportIsTapped :
    base.Taps .e (rxOf solFrame) solFrame 20 (.pv 0) := by decide +kernel

theorem witness_FdrReportIsTapped :
    base.Taps .w (rxOf fdrFrame) fdrFrame 30 (.feeder 0) := by decide +kernel

theorem witness_BusReportIsTapped :
    base.Taps .w (rxOf busFrame) busFrame 40 .busmeter := by decide +kernel

/-- Every unit of `testBank` heard from, its late timer running to 60. -/
def seen : State :=
  { base with pic := { base.pic with
      gen := base.pic.gen.set 0 { genOf 500 with late := some 60 }
      pv := base.pic.pv.set 0 { pvOf 100 200 .fresh with late := some 60 }
      fdr := base.pic.fdr.set 0 ⟨some ⟨.closed, 90, 90, 0, 0⟩, .fresh, some 60⟩
      bus := ⟨some ⟨0, 0, 1000, 1000⟩, .fresh, some 60, 0, 3, 3⟩ } }

theorem witness_LateTimerMakesTheRecordLate :
    ((seen.genRec 0).late = some 60 ∧ (seen.genRec 0).fresh = .fresh) ∧
    ((seen.pvRec 0).late = some 60 ∧ (seen.pvRec 0).fresh = .fresh) ∧
    ((seen.fdrRec 0).late = some 60 ∧ (seen.fdrRec 0).fresh = .fresh) ∧
    (seen.pic.bus.late = some 60 ∧ seen.pic.bus.fresh = .fresh) := by decide +kernel

theorem witness_LostTimerMakesTheRecordLost :
    ((heard 62 3 base).loop.dup[62].lost = some 700 ∧ base.act.mapped 62 = none) ∧
    ((heard 10 3 base).loop.dup[10].lost = some 700 ∧ base.act.mapped 10 = some (.genset 0) ∧
      base.freshness (.genset 0) = .lost) ∧
    ((heard 40 3 seen).loop.dup[40].lost = some 700 ∧ seen.act.mapped 40 = some .busmeter ∧
      seen.freshness .busmeter ≠ .lost ∧ seen.HandedOn ∧ seen.bs.island.live = true ∧
      ∀ g, (seen.gen g).state.onLine = false) ∧
    (seen.act.mapped 10 = some (.genset 0) ∧ seen.freshness (.genset 0) ≠ .lost ∧
      ((setIn .standby seen).gen 0).state = .standby ∧ ((setIn .online seen).gen 0).state = .online) ∧
    (seen.act.mapped 20 = some (.pv 0) ∧ seen.freshness (.pv 0) ≠ .lost) ∧
    (seen.act.mapped 30 = some (.feeder 0) ∧ seen.freshness (.feeder 0) ≠ .lost) := by decide +kernel

theorem witness_UncomputedRoundClearsTheDwells :
    (within .survey base).bal.roundTimer = some 200 ∧ (within .survey base).bank.pending = false ∧
    (within .survey base).bs.island.live = false := by decide +kernel

/-- The state in which the round of 3.13 is worked. -/
def dispatchNow : State := (dispatch.at 200).commitBoundary

/-- Sets and blocks as the statement takes them. -/
theorem witness_ComputedRoundFigures :
    dispatch.bal.roundTimer = some 200 ∧ dispatchNow.bs.island.live = true ∧
    (∀ g, dispatchNow.inGon g = true ↔ (dispatchNow.genCfg g).configured = true ∧
      (dispatchNow.gen g).state = .online ∧ (dispatchNow.genRec g).fresh ≠ .lost) ∧
    (∀ g, dispatchNow.inGunl g = true ↔ (dispatchNow.genCfg g).configured = true ∧
      (dispatchNow.gen g).state = .unloading) ∧
    (∀ g, dispatchNow.inGunseen g = true ↔ (dispatchNow.genCfg g).configured = true ∧
      (dispatchNow.gen g).state = .unseen) ∧
    (∀ g, dispatchNow.underWay g = true ↔ (dispatchNow.genCfg g).configured = true ∧
      ((dispatchNow.gen g).state = .cranking ∨ (dispatchNow.gen g).state = .resting ∨
        (dispatchNow.gen g).state = .warmup ∨ (dispatchNow.gen g).state = .hot ∨
        (dispatchNow.gen g).state = .syncing)) ∧
    (∀ b, dispatchNow.inScmd b = true ↔ (dispatchNow.pvCfg b).configured = true ∧
      (dispatchNow.pv b).state = .on ∧ (dispatchNow.pvRec b).fresh ≠ .lost) ∧
    (∀ b, dispatchNow.inSlost b = true ↔ (dispatchNow.pvCfg b).configured = true ∧
      (dispatchNow.pv b).state = .on ∧ (dispatchNow.pvRec b).fresh = .lost) := by decide +kernel

/-- The walk of 4.6: rank 3 has 450 kW of which 350 are taken, and nothing is left for the others. -/
theorem witness_AllotmentsStayWithinTheTarget :
    dispatch.bal.roundTimer = some 200 ∧ dispatchNow.bs.island.live = true ∧
    dispatch.RampBaseSound ∧ dispatchNow.HandedOn ∧
    (dispatchNow.roundFigures.a - dispatchNow.roundFigures.xCmd).toNat = 350 ∧
    (let left : Nat → Nat := fun r => if r = 3 then 350 else 0
     let frac : Nat → Nat := fun r => if r = 3 then 222 else 1000
     (∀ r, r < 3 → left r = left (r + 1) - dispatchNow.rankAvail (r + 1)) ∧
     ∀ r, r < 4 → frac r =
       if dispatchNow.rankAvail r = 0 ∨ left r = 0 then 1000
       else if dispatchNow.rankAvail r ≤ left r then 0
       else 1000 * (dispatchNow.rankAvail r - left r) / dispatchNow.rankAvail r) := by decide +kernel

/-- A margin below 0 and a set that was being unloaded. -/
theorem witness_RoundResultsActOnTheNeighbours :
    (dispatch.bal.roundTimer = some 200 ∧ dispatchNow.bs.island.live = true) ∧
    (let s := (setIn .unloading base).modGen 0 fun j => { j with order := .unload }
     (s.gen 0).state = .unloading ∧ (s.gen 0).order = .unload ∧ (-1 : Int) < 0) ∧
    ((setIn .unloading base).gen 0).order = .none ∧
    ((setIn .online base).gen 0).state = .online ∧ (base.gen 0).state ≠ .online := by decide +kernel

/-- R92: a stop request unloads a set ONLINE. -/
theorem test_stop_request_unloads :
    (((setIn .online base).stopSet 0).gen 0).order = .unload := by decide +kernel

theorem witness_BlockInvariantsAreKept :
    exec .roundTimerExpiry dispatch = .next round1 ∧ dispatch.QueuesBounded ∧
    dispatch.SeenAreSet ∧ dispatch.RampBaseSound ∧ dispatch.ModeFollowsSource ∧
    dispatch.HandedOn := ⟨exec_after _ _, by decide +kernel⟩

/-- Three starts, as many as the parallel starts allow, fill the slots; a rest time ends. -/
theorem witness_StartsNeverExceedParallelStarts :
    let s := setIn .resting base
    exec (.restTimerExpiry 0) s = .next (after (.restTimerExpiry 0) s) ∧ s.StartsBounded ∧
    s.startCount = s.act.parallelStarts := ⟨exec_after _ _, by decide +kernel, by decide +kernel⟩

theorem witness_RestAndWarmTimesEnd :
    (let s := { setIn .resting base with bs := { base.bs with held := true } }
     s.SupRuns 0 .resting 50 ∧ s.bs.held = true) ∧
    ((setIn .resting base).SupRuns 0 .resting 50 ∧ base.bal.fig.valid = false ∧
      base.bs.held = false ∧
      base.bs.island ≠ .firstSource) ∧
    ((setIn .warmup base).SupRuns 0 .warmup 50 ∧ base.genLost 0 = true) ∧
    ((setIn .warmup seen).SupRuns 0 .warmup 50 ∧ (setIn .warmup seen).genLost 0 = false ∧
      seen.bs.island.live = true) ∧
    (let s := within .firstSource ((setIn .warmup seen).modGen 0 fun j => { j with mark := true })
     s.SupRuns 0 .warmup 50 ∧ s.genLost 0 = false ∧ (s.gen 0).mark = true) ∧
    (let s := within .abandoned (setIn .warmup seen)
     s.SupRuns 0 .warmup 50 ∧ s.genLost 0 = false ∧ s.bs.island.live = false ∧
       0 < (s.genCfg 0).coolTime + (s.genCfg 0).warmTime) ∧
    (within .firstSource (setIn .resting base)).SupRuns 0 .resting 50 ∧
    (let s := { (setIn .warmup seen) with bank := { seen.bank with active := { testBank with
        genset := testBank.genset.set 0 { genCfgOf 0 1200 360 with warmTime := 0, coolTime := 0 } } } }
     s.SupRuns 0 .warmup 50 ∧ (s.genCfg 0).coolTime + (s.genCfg 0).warmTime = 0) := by decide +kernel

/-- R86: a rested set still wanted counts on, although a commit has lowered max attempts to its count. -/
theorem test_rest_counts_past_max_attempts :
    (let s := { (setIn .resting base).modGen 0 fun j => { j with attempts := 2 } with
      bs := { base.bs with held := true } }
     ((after (.restTimerExpiry 0) s).gen 0).attempts) = 3 := by decide +kernel

theorem witness_SupervisionTimesEnd :
    (setIn .cranking base).SupRuns 0 .cranking 50 ∧ (setIn .syncing base).SupRuns 0 .syncing 50 ∧
    (((setIn .syncing base).modGen 0 fun j => { j with attempts := 2 }).SupRuns 0 .syncing 50 ∧
      (base.genCfg 0).maxAttempts = 2) ∧
    (setIn .hot base).SupRuns 0 .hot 50 ∧ (setIn .cooldown base).SupRuns 0 .cooldown 50 ∧
    (setIn .stopping base).SupRuns 0 .stopping 50 ∧
    (setIn .unloading base).SupRuns 0 .unloading 50 := by decide +kernel

/-- Every set state can be met with a report's values, which `genOf` gives. -/
theorem witness_GenReportsMoveTheSets :
    (seen.genRec 0).vals = some ⟨.running, .closed, true, 500, 500, 0, 0⟩ ∧
    ((setIn .cranking seen).gen 0).state = .cranking ∧ seen.Qual (seen.genRec 0).nRunning ∧
    ¬ seen.Qual (seen.genRec 0).nOpen ∧
    (let s := { (setIn .cranking seen) with bank := { seen.bank with active := { testBank with
        genset := testBank.genset.set 0 { genCfgOf 0 1200 360 with warmTime := 0 } } } }
     s.Qual (s.genRec 0).nRunning ∧ (s.genCfg 0).warmTime = 0) := by decide +kernel

/-- A last loaded output at the trip threshold and one above it, in ONLINE and in UNLOADING. -/
theorem witness_TripsOfLoadedSetsShed :
    (let s := (setIn .online seen).modGenRec 0 fun r => { r with lastLoaded := some 50 }
     (s.gen 0).state = .online ∧ (s.genRec 0).lastLoaded.getD 0 ≤ s.act.tripThreshold) ∧
    ((setIn .online seen).act.tripThreshold < (seen.genRec 0).lastLoaded.getD 0) ∧
    (let s := (setIn .unloading seen).modGenRec 0 fun r => { r with lastLoaded := some 0 }
     (s.gen 0).state = .unloading ∧
       (s.genRec 0).lastLoaded.getD 0 ≤ (s.genCfg 0).unloadThreshold) ∧
    ((setIn .unloading seen).genCfg 0).unloadThreshold < (seen.genRec 0).lastLoaded.getD 0 := by
  decide +kernel

/-- An order that is due again after 2000 ms, below the resend limit of 3 and at it. -/
def sentAgo (n : Nat) (s : State) : State :=
  { s.modGen 0 fun j => { j with order := .start, sendCount := n, lastSend := some 0 } with
    clock := 2000 }

theorem witness_EchoesTakeOrResend :
    (((sentAgo 7 (setIn .cranking seen)).gen 0).order ≠ .none ∧
      ((sentAgo 7 (setIn .cranking seen)).gen 0).taken = false ∧
      ¬ (sentAgo 7 seen).clock < 0 + (sentAgo 7 seen).act.resendInterval ∧
      7 < (sentAgo 7 seen).act.resendLimit ∧ (sentAgo 8 seen).act.resendLimit ≤ 8) ∧
    ((dispatch.pv 2).order = .cap ∧ (dispatch.pv 2).cap = some 400 ∧
      (dispatch.pv 2).taken = true) ∧
    (base.pv 0).order = .none ∧ (base.fdr 0).order = .none := by decide +kernel

theorem witness_PlainTimersChangeNothingElse :
    ((base.modGen 7 fun j => { j with minRun := .running 9 }).gen 7).minRun = .running 9 ∧
    { base.shed with recover := some 9 }.recover = some 9 ∧
    { base.shed with dwell := some 9 }.dwell = some 9 ∧
    { base.shed with interval := some 9 }.interval = some 9 ∧
    { base.bs with stepInterval := some 9 }.stepInterval = some 9 ∧
    { base.bs with capacityHold := some 9 }.capacityHold = some 9 := by decide +kernel

/-- Feeder 0 in a state with an order, its confirm timer running. -/
def feederIn (x : FdrState) (o : OrderCode) (s : State) : State :=
  { s.modFdr 0 fun j => { j with state := x, order := o, confirm := some 300 } with
    shed := { (s.modFdr 0 fun j =>
      { j with state := x, order := o, confirm := some 300 }).shed with
        stack := if x.stacked then [⟨0, 90, .stage 0, 0⟩] else [] } }

theorem witness_UnconfirmedFeedersAreStuck :
    (let s := feederIn .shedPending .open seen
     (s.fdr 0).confirm = some 300 ∧ (s.fdr 0).state = .shedPending ∧
       s.entryOf 0 = some ⟨0, 90, .stage 0, 0⟩) ∧
    ((feederIn .restoring .close seen).fdr 0).state = .restoring ∧
    (((feederIn .heldOpen .close seen).fdr 0).state = .heldOpen ∧
      ((feederIn .heldOpen .close seen).fdr 0).order = .close) := by decide +kernel

theorem witness_ArmedStagesFire :
    ({ seen with shed := { seen.shed with stages := seen.shed.stages.set 0 ⟨.armed, some 100⟩ } }
      : State).shed.stages[(0 : Fin 6)] = ⟨.armed, some 100⟩ := by decide +kernel

/-- A feeder of 90 kW on top of the stack, the restore dwell met, a margin of 90 kW. -/
def mayRestore : State :=
  { feederIn .shed .open seen with
    shed := { (feederIn .shed .open seen).shed with dwellMet := true }
    bal := { seen.bal with fig := { seen.bal.fig with valid := true, m := 90 } } }

theorem witness_BusReportsJudgeTheStages :
    (within .survey base).bs.island.live = false ∧
    (mayRestore.bs.island.live = true ∧ (mayRestore.act.stages[(0 : Fin 6)]).enabled = true ∧
      (-500 : Int) ≤ -((mayRestore.act.stages[(0 : Fin 6)]).threshold : Int) ∧
      -(mayRestore.act.recoverBand : Int) ≤ -200) ∧
    (mayRestore.shed.ufActive = false ∧ mayRestore.shed.dwellMet = true ∧
      mayRestore.shed.stack = [⟨0, 90, .stage 0, 0⟩] ∧ mayRestore.shed.interval = none ∧
      (mayRestore.fdr 0).state = .shed ∧ (mayRestore.fdrRec 0).fresh ≠ .lost ∧
      ((90 * (if mayRestore.act.coldTime ≤ mayRestore.shed.seconds - 0 then
        (mayRestore.fdrCfg 0).coldFactor else 1000) + 999) / 1000 : Nat) = 90 ∧
      (90 : Int) ≤ mayRestore.bal.fig.m) ∧ base.shed.stack = [] := by decide +kernel

theorem witness_DemandsShedTheShortestRun :
    let s := seen.modFdr 0 fun j => { j with state := .closed }
    s.act.shedList.Nodup ∧ s.act.shedList.filter s.canShed = [0] := by decide +kernel

theorem witness_StackHoldsTheShedFeeders :
    let s := feederIn .shedPending .open seen
    exec (.confirmTimerExpiry 0) s = .next (after (.confirmTimerExpiry 0) s) ∧ s.StackLaw :=
  ⟨exec_after _ _, by decide +kernel⟩

/-- In SURVEY, its timer running to 2000. -/
def surveying (s : State) : State := { s with bs := BlackStart.reset .survey (some 2000) }

theorem witness_SurveyExpiryJudgesTheBus :
    ((surveying base).bs.survey = some 2000 ∧ (surveying base).bs.island = .survey ∧
      (surveying base).HandedOn ∧ base.pic.bus.fresh = .lost) ∧
    (seen.pic.bus.fresh ≠ .lost ∧ seen.pic.bus.vals = some ⟨0, 0, 1000, 1000⟩ ∧
      (surveying seen).bs.survey = some 2000) := by decide +kernel

theorem witness_BusReportsJudgeTheIsland :
    ((surveying base).bs.island = .survey ∧ (surveying base).bs.surveyEnded = false ∧
      base.pic.bus.fresh ≠ .fresh) ∧
    (let s := { surveying seen with bs := { (surveying seen).bs with surveyEnded := true } }
     s.bs.surveyEnded = true ∧ s.pic.bus.fresh ≠ .lost ∧
       s.pic.bus.vals = some ⟨0, 0, 1000, 1000⟩) ∧
    (seen.Qual seen.pic.bus.nLive ∧ seen.Qual seen.pic.bus.nSettled ∧
      ¬ seen.Qual seen.pic.bus.nDead) ∧ base.bs.island ≠ .survey := by decide +kernel

/-- In FIRST_SOURCE, both sets in a state from which one can be chosen. -/
def choosing (x : GenState) : State :=
  within .firstSource ((setIn x seen).modGen 1 fun j => { j with state := x })

/-- The set that bears the mark comes ONLINE in FIRST_SOURCE, and leaves it in ENERGIZING. -/
theorem witness_SetChangesReachTheController :
    (⟨0, .syncing, .online, true, .firstSource⟩ : GenChange).island =
      (within .firstSource base).bs.island ∧
    (⟨0, .online, .unseen, true, .energizing⟩ : GenChange).island =
      (within .energizing base).bs.island ∧
    (⟨0, .online, .notReady, false, .balancing⟩ : GenChange).island = base.bs.island ∧
    (base.pic.bus.fresh = .lost ∧ ∀ g, (base.gen g).state.onLine = false) ∧
    (⟨0, .online, .unseen, true, .energizing⟩ : GenChange).island ≠ base.bs.island ∧
    (choosing .hot).FirstChoice 0 ∧ (choosing .standby).FirstChoice 0 ∧
    base.HandedOn ∧
    { base with seq := { base.seq with changes := [⟨0, .standby, .notReady, false, .balancing⟩] }
      }.seq.changes = [⟨0, .standby, .notReady, false, .balancing⟩] ∧
    (base.onGenChange ⟨0, .standby, .notReady, false, .balancing⟩).HandedOn := by
  refine ⟨rfl, rfl, rfl, ⟨rfl, ?_⟩, ?_, ?_, ?_, rfl, rfl, rfl⟩ <;> decide +kernel

/-- In BLACKOUT, in a phase, its timers running. -/
def blackout (ph : Phase) (s : State) : State :=
  { s with bs := { BlackStart.reset .blackout none with
      phase := ph, clearDown := some 900, limit := some 5000 } }

theorem witness_ClearDownExpiryEndsTheClearing :
    ((blackout .clearing base).bs.clearDown = some 900 ∧ (blackout .clearing base).HandedOn ∧
      (blackout .clearing base).bs.island = .blackout ∧
      (blackout .clearing base).bs.phase = .clearing) ∧
    ((blackout .waiting base).bs.clearDown = some 900 ∧
      (blackout .waiting base).bs.phase ≠ .clearing) := by decide +kernel

theorem witness_BlackStartLimitAbandons :
    ((blackout .waiting base).bs.limit = some 5000 ∧ (blackout .waiting base).HandedOn ∧
      (blackout .waiting base).bs.island = .blackout) ∧
    (let s := within .energizing (blackout .none seen)
     s.bs.limit = some 5000 ∧ s.act.qualCount ≤ s.pic.bus.nLive) ∧
    (let s := within .energizing (blackout .none base)
     s.bs.limit = some 5000 ∧ s.pic.bus.nLive < s.act.qualCount) ∧
    ((within .balancing (blackout .none base)).bs.limit = some 5000) := by decide +kernel

theorem witness_EnergizeExpiryFailsTheFirstSource :
    let s := { (setIn .online seen).modGen 0 fun j => { j with mark := true } with
      bs := { BlackStart.reset .energizing none with energize := some 800 } }
    s.bs.energize = some 800 ∧ s.bs.island = .energizing ∧ s.HandedOn ∧
    (s.gen 0).state = .online ∧ (s.gen 0).mark = true := by decide +kernel

/-- In RESTORING with one step, of feeder 0, which is held open; the headroom stands at its need. -/
def stepping : State :=
  let s := feederIn .heldOpen .open seen
  { s with
    bank := { s.bank with active := { testBank with
      steps := (Vector.replicate 16 StepCfg.empty).set 15 ⟨true, some 0, none, none, none⟩ } }
    bs := BlackStart.reset .restoring none
    bal := { s.bal with fig := { s.bal.fig with valid := true, h := 100 + testBank.reserveBase } } }

theorem witness_RestorationStepsAreJudged :
    (stepping.StepOpen 15 ∧ (∀ m, m < 15 → ¬ stepping.StepOpen m) ∧ stepping.bs.awaiting = false ∧
      stepping.bs.stepInterval = none ∧ stepping.bal.fig.valid = true ∧
      ((100 + stepping.act.reserveBase : Nat) : Int) ≤ stepping.bal.fig.h) ∧
    ((∀ n, ¬ base.StepOpen n) ∧ 0 < base.act.pvHold ∧
      { base with bank := { base.bank with active := { testBank with
        params := testBank.params.set 37 0 } } }.act.pvHold = 0) ∧
    (base.mode.mode ≠ .commissioning ∧ base.startCount < base.act.parallelStarts ∧
      ((setIn .hot base).gen 0).state = .hot ∧ ((setIn .standby base).gen 0).state = .standby ∧
      ∀ k, (base.genCfg k).configured = true →
        (base.gen k).state ≠ .hot ∧ (base.gen k).state ≠ .standby) ∧
    (setIn .resting base).act.parallelStarts ≤ (setIn .resting base).startCount := by
  refine ⟨⟨?_, ?_, ?_⟩, ⟨?_, ?_⟩, ?_, ?_⟩
  · decide +kernel
  · decide +kernel
  · decide +kernel
  · decide +kernel
  · decide +kernel
  · decide +kernel
  · decide +kernel

/-- In PV_RETURN with the hold and the gap running. -/
def returning (s : State) : State :=
  { s with bs := { BlackStart.reset .pvReturn none with pvHold := some 70, pvGap := some 80 } }

theorem witness_PvReturnPermitsTheNextBlock :
    ((returning seen).bs.pvHold = some 70 ∧ (returning seen).bs.pvGap = some 80 ∧
      (returning seen).HandedOn ∧ (returning seen).bs.island = .pvReturn) ∧
    (within .balancing (returning seen)).bs.island ≠ .pvReturn ∧
    (inMode .commissioning (returning seen)).mode.mode = .commissioning ∧
    ((returning seen).Permittable 0 ∧ ∀ k, (returning seen).Permittable k → k ≠ 0 →
      ((returning seen).pvCfg 0).reconnect < ((returning seen).pvCfg k).reconnect) ∧
    (∀ b, ¬ (returning base).Permittable b) := by decide +kernel

/-- Mode control with the line at a level and its marks. -/
def lineAt (high armed pulseMark : Bool) (s : State) : State :=
  { s with mode := { s.mode with
      mntHigh := high, armed := armed, pulseMark := pulseMark, pulse := some 20 } }

theorem witness_LineLevelsFormPulses :
    ((lineAt true true false base).mode.mntHigh = true ∧
      (lineAt true true false base).mode.armed = true) ∧
    ((lineAt true false false base).mode.armed = false) ∧
    ((lineAt false false false base).mode.mntHigh = false ∧
      (lineAt false false false base).mode.armed = false) ∧
    ((lineAt false true true base).mode.pulseMark = true) ∧
    ((lineAt false true false base).mode.pulseMark = false ∧
      (lineAt false true false base).mode.pulse = some 20) := by decide +kernel

theorem witness_TrainsSelectTheirAction :
    ((trainOf 3 base).mode.train = some 600 ∧ (trainOf 3 base).mode.trainCount = 3) ∧
    ((trainOf 5 base).mode.train = some 600 ∧ (trainOf 5 base).mode.trainCount = 5) ∧
    ((trainOf 7 (setIn .lockout base)).mode.trainCount = 7 ∧
      ((trainOf 7 (setIn .lockout base)).gen 0).state = .lockout) ∧
    (let s := inMode .hold (trainOf 9 (blackout .waiting base))
     s.mode.trainCount = 9 ∧ s.HandedOn ∧ s.bs.island = .blackout ∧ s.bs.phase = .waiting ∧
       s.mode.mode = .hold) ∧
    (∀ m ∈ [Mode.auto, .hold, .commissioning],
      let s := inMode m (trainOf 9 (within .abandoned base))
      s.mode.train = some 600 ∧ s.mode.trainCount = 9 ∧ s.HandedOn ∧ s.bs.island = .abandoned) ∧
    ((trainOf 15 base).mode.trainCount = 15 ∧ (trainOf 15 base).HandedOn) ∧
    ((trainOf 9 base).mode.trainCount = 9 ∧ base.bs.island ≠ .abandoned ∧
      base.bs.island ≠ .blackout) ∧
    (trainOf 0 base).mode.lineTimer = some 700 := by decide +kernel

/-- Port E still inserts the OPEN that a CLOSE has replaced in its slot. -/
def sendingOlder : State :=
  sending (.order 30) true (withSlot 30 { slotOf .urgent 0 with code := .close } base)

/-- The insertion of a slot that holds a CLOSE is cut at the entry to COMMISSIONING, whatever it still
sends (R127). -/
theorem test_commissioning_cuts_the_insertion_of_a_close_slot :
    (sendingOlder.applyMode .commissioning .directive).loop.portE.tx = .idle ∧
    (sendingOlder.applyMode .commissioning .directive).slot 30 = none := by decide +kernel

/-- In HOLD, left from COMMISSIONING in each island state that judges the change; a feeder whose CLOSE is
not taken, an order that COMMISSIONING forbids, and its insertion. -/
theorem witness_ModeChangesActOnTheJobs :
    ((trainOf 3 base).mode.train = some 600 ∧ (trainOf 3 base).mode.trainCount = 3) ∧
    (trainOf 5 base).mode.trainCount = 5 ∧ (trainOf 7 base).mode.trainCount = 7 ∧
    (trainOf 0 base).mode.lineTimer = some 700 ∧
    (base.CanTake ∧ base.MayControl 1 ∧ dirModeOf 1 = some .hold ∧
      base.mode.source = .directive ∧ base.mode.dirMode ≠ .hold) ∧
    (base.HandedOn ∧ base.mode.mode = .auto ∧ (inMode .hold base).mode.mode = .hold) ∧
    (let s := (withSlot 30 { slotOf .urgent 0 with code := .close }
        (feederIn .restoring .close base)).modPort .e fun x => { x with
          tx := .inserting (.order 30) (frameOf 30 5 kindOrder 40 [8, 7, 0, 0]) false }
     (s.fdr 0).order = .close ∧ (s.fdr 0).taken = false ∧ (s.fdr 0).state = .restoring ∧
       s.mode.mode ≠ .commissioning ∧ (s.slot 30).map (·.code) = some .close ∧
       (s.port .e).tx = .inserting (.order 30) (frameOf 30 5 kindOrder 40 [8, 7, 0, 0]) false ∧
       (frameOf 30 5 kindOrder 40 [8, 7, 0, 0]).orderCode = OrderCode.close.code) ∧
    ((sendingOlder.port .e).tx = .inserting (.order 30) (frameOf 30 5 kindOrder 40 [7, 7, 0, 0]) true ∧
      (sendingOlder.slot 30).map (·.code) = some .close) ∧
    (let c := inMode .commissioning
     (c (blackout .deferred base)).mode.mode = .commissioning ∧
       (c (blackout .deferred base)).HandedOn ∧
       (c (blackout .deferred base)).bs.phase = .deferred ∧
       ((c (blackout .waiting base)).bs.island = .blackout ∧
         (c (blackout .waiting base)).bs.phase = .waiting) ∧
       ((c (choosing .standby)).FirstChoice 0 ∧ ∀ k, ((c (choosing .standby)).gen k).mark = false) ∧
       { (returning seen).bs with permitDue := true }.permitDue = true ∧
       (c (returning seen)).bs.island = .pvReturn ∧ (c base).bs.island = .balancing) := by
  refine ⟨?_, ?_, ?_, ?_, ?_, ?_, ?_, ?_, ?_⟩ <;> decide +kernel

theorem witness_CommissioningSendsOpenAlone :
    let s := inMode .commissioning (withSlot 30 (slotOf .urgent 0) base)
    exec .roundTimerExpiry s = .next (after .roundTimerExpiry s) ∧ s.OrdersSound ∧
    s.CommissioningLaw := ⟨exec_after _ _, by decide +kernel, by decide +kernel⟩

/-- Set 0 in CRANKING at its last attempt, its START waiting and on its way by port E. -/
def cranking : State :=
  let s := (setIn .cranking base).modGen 0 fun j => { j with attempts := 2, order := .start, tag := 7 }
  (withSlot 10 { slotOf .routine 0 with code := .start } s).modPort .e fun x =>
    { x with tx := .inserting (.order 10) (frameOf 10 5 kindOrder 40 [1, 7, 0, 0]) false }

/-- The set locks out in that state, and an insertion for a set in LOCKOUT begins in the one that follows. -/
theorem witness_LockoutIsSentNoStart :
    let s := cranking
    let t := after (.crankTimerExpiry 0) s
    exec (.crankTimerExpiry 0) s = .next t ∧ s.UnitsSound ∧ s.SlotsSound ∧
    (t.gen 0).state = .lockout ∧ ¬ s.SendsNoStart 0 ∧
    exec (.insertionOpportunity .e) t = .next (after (.insertionOpportunity .e) t) ∧
    t.SendsNoStart 0 := by
  refine ⟨exec_after _ _, ?_, ?_, ?_, ?_, exec_after _ _, ?_⟩
  · refine ⟨?_, ?_, ?_⟩ <;> decide +kernel
  · refine ⟨?_, ?_, ?_⟩
    · decide +kernel
    · decide +kernel
    · decide +kernel
  · decide +kernel
  · exact fun h => h .e 10 (frameOf 10 5 kindOrder 40 [1, 7, 0, 0]) false (by decide +kernel) rfl rfl
  · intro p a f stale _ h
    cases p <;> cases h

theorem witness_TableWritesAreJudgedInOrder :
    (base.CanTake ∧ base.MayControl 1) ∧ (9 < (10 : Byte).toNat ∧ (0 : Byte).toNat = 0) ∧
    ((9 : Byte).toNat = 9 ∧ base.mode.mode ≠ .commissioning) ∧
    ([] : List Byte).length ≠ tableSize 1 ∧
    ([1, 0] : List Byte).length = tableSize 1 ∧ tableCount 1 ≤ (64 : Byte).toNat ∧
    (base.bank.shadow.writeRecord 1 0 [1, 8] = none) ∧
    ((63 : Byte).toNat < tableCount 1 ∧
      (base.bank.shadow.writeRecord 1 63 [1, 7]).isSome = true) ∧
    (NamesUnit 4 0 (some .busmeter) ∧ ¬ (∃ g : Fin 8, (8 : Byte).toNat = g.val) ∧
      NamesFeeder 0xFF none ∧ NamesFeeder 31 (some 31)) ∧
    (∃ x : Nat → Nat, ∀ i : Fin 40, x i.val = testBank.params[i]) :=
  ⟨by decide +kernel, by decide +kernel, by decide +kernel, by decide +kernel, by decide +kernel,
    by decide +kernel, by decide +kernel, by decide +kernel, by decide +kernel,
    fun k => testBank.params[k]?.getD 0, by decide +kernel⟩

/-- R192: extensions of 9 and 0, and low parts of 65535 and 0, give 600000 ms and 1000 ms. -/
theorem test_restore_times_are_held :
    (let b := { testBank with
      params := ((testBank.params.set 27 65535).set 28 0).set 29 (9 * 256) }
     (b.restoreDwell, b.restoreInterval)) = (600000, 1000) := by decide +kernel

/-- R170: a min load above 3999 kW is lowered to it, whatever the rating. -/
theorem test_min_load_is_clamped :
    (testBank.writeRecord 2 7 ([1] ++ be16 500 ++ be16 5000 ++ [2, 0, 1] ++ be16 0 ++ be16 5 ++ be16 5
      ++ be16 5 ++ be16 5 ++ be16 5 ++ be16 5 ++ be16 5 ++ be16 5)).map
      (fun w => ((w.bank.genset[(7 : Fin 8)]).minLoad, w.clamped)) = some (3999, true) := by
  decide +kernel

theorem witness_RecordsAndImagesReadBack :
    (0 < tableCount 9 ∧ (List.replicate 8 (3 : Byte)).length = tableSize 9 ∧
      (testBank.writeRecord 9 0 (List.replicate 8 3)).isSome = true) ∧
    testBank.image.length = 818 ∧ (Bank.ofImage testBank.image).isSome = true := by decide +kernel

/-- A shadow that fails check 3: set 0 configured with no station. -/
def unmapped : Bank := { testBank with station := Vector.replicate 64 none }

/-- A commit is pending: set 0 is removed, set 1 rated lower, and a PV block moved. -/
def committing (x : Island) : State :=
  let s := within x seen
  { s with
    bank := { s.bank with
      pending := true
      shadow := { testBank with
        station := ((testBank.station.set 10 none).set 20 none).set 22 (some (.pv 0))
        genset := (testBank.genset.set 0 GenCfg.empty).set 1 (genCfgOf 1 700 240) } } }

theorem witness_CommitsActOnTheRecords :
    base.bal.roundTimer = some 200 ∧
    ∀ x ∈ [Island.balancing, .unconfigured], ∀ s, s = committing x →
      s.bank.pending = true ∧ (s.bs.island = .balancing ∨ s.bs.island = .unconfigured) ∧
      s.shed.ufActive = false ∧ s.bank.shadow.commitCheck s.ownAddr = none ∧ s.HandedOn ∧
      s.bank.active.configured (.genset 0) = true ∧
      s.bank.shadow.configured (.genset 0) = false ∧
      s.bank.active.stationOf (.pv 0) = some 20 ∧ s.bank.shadow.stationOf (.pv 0) = some 22 ∧
      s.bank.active.stationOf (.feeder 0) = some 30 ∧ s.bank.shadow.stationOf (.feeder 0) = some 30 ∧
      s.bank.active.stationOf (.genset 1) = some 11 ∧
      s.bank.shadow.stationOf (.genset 1) = some 11 := by
  refine ⟨by decide +kernel, ?_⟩
  intro x hx s h
  subst h
  revert x
  decide +kernel

/-- R108: a commit that does not lower max attempts leaves a count above it as it is. -/
theorem test_commit_keeps_a_count_above_max_attempts :
    (let s := ({ base with bank := { base.bank with pending := true } }).modGen 1 fun j =>
      { j with attempts := 3 }
     ((after .roundTimerExpiry s).gen 1).attempts) = 3 := by decide +kernel

theorem witness_BankAndImageChangeAtTheirEventsAlone :
    (let s := { base with bank := { base.bank with
      pending := true, shadow := { testBank with guards := Vector.replicate 8 true } } }
     exec .roundTimerExpiry s = .next (after .roundTimerExpiry s) ∧
       (after .roundTimerExpiry s).bank.active.guards ≠ s.bank.active.guards) ∧
    (let s := { base with store := { base.store with cond := .saving } }
     s.store.cond = .saving ∧ exec .storeSaveDone s = .next (after .storeSaveDone s) ∧
       (after .storeSaveDone s).store.image ≠ s.store.image) :=
  ⟨⟨exec_after _ _, by decide +kernel⟩, ⟨rfl, exec_after _ _, by decide +kernel⟩⟩

theorem witness_BoundaryTakesTheCommit :
    ((base.CanTake ∧ base.MayControl 1) ∧
      ({ base.store with cond := .saving }.cond = .saving) ∧
      (base.store.cond ≠ .saving ∧ unmapped.commitCheck (some 5) = some ⟨3, 0⟩) ∧
      base.bank.shadow.commitCheck base.ownAddr = none) ∧
    let s := { base with bank := { base.bank with pending := true } }
    (s.bal.roundTimer = some 200 ∧ s.bank.pending = true ∧ s.bs.island = .balancing ∧
      s.shed.ufActive = false ∧ s.bank.shadow.commitCheck s.ownAddr = none) ∧
    (within .unconfigured s).bs.island = .unconfigured ∧
    unmapped.commitCheck (some 5) = some ⟨3, 0⟩ ∧ (unmapped.genset[(0 : Fin 8)]).configured = true ∧
    base.bank.pending = false ∧
    (within .survey s).bs.island ≠ .balancing := by decide +kernel

theorem witness_DirectivesPassTheirChecks :
    { base.dir with window := true }.window = true ∧
    (let s := withAnswers (List.replicate 4 (answerOf 5)) base
     s.dir.window = false ∧ 4 ≤ s.loop.answers.length) ∧
    ((withAnswers (List.replicate 3 (answerOf 5)) base).CanTake ∧ ¬ base.MayControl 62) ∧
    (¬ (⟨1, .readTable, true, some 3⟩ : DirectiveRow).Fits 2 ∧
      ¬ (⟨2, .writeTable, false, none⟩ : DirectiveRow).Fits 1 ∧
      (⟨2, .writeTable, false, none⟩ : DirectiveRow).Fits 2) ∧
    directiveRows.length = 14 := by decide +kernel

theorem witness_AnswersJoinInSegments : (List.replicate 378 (0 : Byte)).length ≤ 378 := by decide +kernel

theorem witness_RecordsAreRead :
    base.CanTake ∧ (9 < (10 : Byte).toNat ∧ 1 < (2 : Byte).toNat ∧ tableCount 9 ≤ (1 : Byte).toNat) ∧
    (1 ≤ (9 : Byte).toNat ∧ (9 : Byte).toNat ≤ 9 ∧ (0 : Byte).toNat < tableCount 9) ∧
    unitOfBytes 1 8 = none ∧
    (unitOfBytes 1 7 = some (.genset 7) ∧ base.act.configured (.genset 7) = false) ∧
    (unitOfBytes 4 0 = some .busmeter ∧ base.act.configured .busmeter = true) ∧
    base.act.stationOf (.genset 0) = some 10 := by decide +kernel

theorem witness_StatusMarksAndAcksClear :
    (base.CanTake ∧ base.MayControl 1) ∧
    (State.reset.sum.has .restarted = true ∧ State.reset.loop.notice ≠ none) ∧
    (base.sum.has .restarted = true ∧ base.loop.notice = none) ∧
    base.sum.has .lockout = false := by decide +kernel

theorem witness_OperatorDirectivesAct :
    base.CanTake ∧ base.MayControl 1 ∧ ((2 : Byte) ≠ 0 ∧ (2 : Byte) ≠ 1) ∧
    (dirModeOf 0 = some .auto ∧ dirModeOf 1 = some .hold) ∧
    ({ base.mode with source := .line }.source = .line) ∧
    (base.mode.source = .directive ∧ base.mode.dirMode = .auto ∧ base.mode.dirMode ≠ .hold) ∧
    base.ModeFollowsSource ∧
    (base.CanTake ∧ base.MayControl 1 ∧ base.HandedOn) ∧
    (8 ≤ (8 : Byte).toNat ∧ (base.genCfg 7).configured = false) ∧
    ((base.genCfg 1).configured = true ∧ ((setIn .lockout base).gen 0).state = .lockout) ∧
    ((blackout .waiting base).bs.island = .blackout ∧ (blackout .waiting base).bs.phase = .waiting ∧
      base.mode.mode ≠ .commissioning) ∧
    (within .abandoned base).bs.island = .abandoned ∧
    ((blackout .clearing base).bs.phase ≠ .waiting) ∧
    (within .energizing base).bs.island = .energizing ∧ base.bs.island = .balancing := by
  decide +kernel

end Sys2Proof.Tests
end

section
/-! SUPPORT. Loss of signal at a loop port (R4, R7, R15): what a walk over the order slots gives, what the
acting on marks and the raising of a flag leave of the loop, and the entry of a port into DOWN. -/

namespace Sys2Proof.Machine

/-! ## Acting once at each index of a vector -/

/-- An action at an index that changes the record there alone changes, run over distinct indices, each of
their records once. -/
theorem forEach_getElem {α : Type} {n : Nat} (act : Fin n → Vector α n → Vector α n) (f : α → α)
    (same : ∀ i v, (act i v)[i] = f v[i]) (other : ∀ i j v, j ≠ i → (act i v)[j] = v[j])
    (is : List (Fin n)) (distinct : is.Nodup) (v : Vector α n) (j : Fin n) :
    (forEach is act v)[j] = if j ∈ is then f v[j] else v[j] := by
  unfold forEach
  induction is generalizing v with
  | nil => simp
  | cons i is ih =>
    obtain ⟨fresh, rest⟩ := List.nodup_cons.mp distinct
    rw [List.foldl_cons, ih rest]
    by_cases hji : j = i
    · subst hji
      simp [fresh, same]
    · simp [hji, other _ _ _ hji]

/-! ## Acting on the marks of every entry (R15) -/

theorem addresses_nodup : addresses.Nodup := List.nodup_finRange 64

theorem mem_addresses (a : Addr) : a ∈ addresses := List.mem_finRange a

/-- A walk over the addresses reaches every order slot, and each once. -/
theorem Loop.mapMarks_order (l : Loop) (f : Marks → Marks) (a : Addr) :
    (l.mapMarks f).orders[a] = l.orders[a].map fun o => { o with marks := f o.marks } := by
  unfold Loop.mapMarks
  rw [forEach_getElem _ (Option.map fun o : OrderSlot => { o with marks := f o.marks })
    ?same ?other addresses addresses_nodup, if_pos (mem_addresses a)]
  case same =>
    intro i v
    split
    next empty => rw [empty]; rfl
    next o filled => rw [put_same, filled]; rfl
  case other =>
    intro i j v hji
    split
    next => rfl
    next => exact put_other _ _ _ _ hji

@[simp] theorem State.mapMarks_slot (s : State) (f : Marks → Marks) (a : Addr) :
    (s.mapMarks f).slot a = (s.slot a).map fun o => { o with marks := f o.marks } :=
  s.loop.mapMarks_order f a

@[simp] theorem State.mapMarks_port (s : State) (f : Marks → Marks) (p : Port) :
    (s.mapMarks f).port p = s.port p := by
  cases p <;> simp only [State.port, State.mapMarks_loop, Loop.mapMarks]

@[simp] theorem State.modPort_slot (s : State) (p : Port) (f : PortState → PortState) (a : Addr) :
    (s.modPort p f).slot a = s.slot a := by cases p <;> rfl

/-- The mark of a port that enters DOWN: an entry that bears it alone moves to the other port, or is held on
both where that is DOWN too; any other entry loses it. -/
theorem Marks.portDown_eq (m : Marks) (p : Port) (otherDown : Bool) :
    m.portDown p otherDown =
      if m.on p = true ∧ m.on p.other = false then
        if otherDown = true then ⟨true, true⟩ else Marks.only p.other
      else m.clear p := by
  have done : (m.clear p).isDone = !m.on p.other := by
    cases p <;> simp [Marks.clear, Marks.isDone, Marks.on, Port.other]
  simp [Marks.portDown, Marks.both, done]

/-! ## What the raising of a flag leaves of the loop (R187) -/

theorem State.raise_answers (s : State) (f : Flag) : (s.raise f).loop.answers = s.loop.answers :=
  congrArg Kept.answers (s.raise_kept f)

theorem State.raise_port_kept (s : State) (f : Flag) (p : Port) :
    ((s.raise f).port p).kept = (s.port p).kept := by
  cases p with
  | e => exact congrArg Kept.portE (s.raise_kept f)
  | w => exact congrArg Kept.portW (s.raise_kept f)

/-- A notice slot that is filled again makes an insertion of the notice stale (R22), and touches a
transmitter in no other way. -/
theorem State.raise_port_tx (s : State) (f : Flag) (p : Port) :
    ((s.raise f).port p).tx = (s.port p).tx ∨
      ((s.raise f).port p).tx = (s.port p).tx.disown .notice := by
  unfold State.raise
  dsimp only
  split
  · exact .inr (by cases p <;> rfl)
  · exact .inl (by cases p <;> rfl)

theorem State.raise_forwarding (s : State) (f : Flag) (p : Port) (h : (s.port p).tx = .forwarding) :
    ((s.raise f).port p).tx = .forwarding := by
  obtain same | disowned := s.raise_port_tx f p
  · exact same.trans h
  · rw [disowned, h]; rfl

theorem State.raise_inserting (s : State) (f : Flag) (p : Port) {r : EntryRef} {g : Frame} {stale : Bool}
    (h : (s.port p).tx = .inserting r g stale) :
    ∃ stale', ((s.raise f).port p).tx = .inserting r g stale' := by
  obtain same | disowned := s.raise_port_tx f p
  · exact ⟨stale, same.trans h⟩
  · exact ⟨stale || r.same .notice, by rw [disowned, h]; rfl⟩

/-! ## Loss of signal (R4) -/

theorem exec_lossOfSignal (p : Port) (s : State) :
    exec (.lossOfSignal p) s = .next (s.losePort p) := rfl

theorem PortState.isDown_iff (x : PortState) : x.isDown = true ↔ x.cond = .down := by
  simp [PortState.isDown]

/-- A port's own part of its entry into DOWN. -/
def PortState.enterDown (x : PortState) : PortState :=
  ({ x with cond := .down, goodCount := 0 }).openWindow none

/-- The entry of a port into DOWN, before PORT_CHANGE is raised. -/
def State.portEntersDown (s : State) (p : Port) : State :=
  (s.modPort p PortState.enterDown).mapMarks fun m => m.portDown p (s.port p.other).isDown

theorem State.losePort_of_down (s : State) (p : Port) (h : (s.port p).cond = .down) :
    s.losePort p = s.modPort p fun x => { x with goodCount := 0 } :=
  if_pos ((s.port p).isDown_iff.mpr h)

theorem State.losePort_of_not_down (s : State) (p : Port) (h : (s.port p).cond ≠ .down) :
    s.losePort p = (s.portEntersDown p).raise .portChange := by
  have live : ¬ (s.port p).isDown = true := mt (s.port p).isDown_iff.mp h
  simp only [State.losePort, if_neg live, State.modPort_other]
  rfl

theorem State.portEntersDown_outside_loop (s : State) (p : Port) :
    { s.portEntersDown p with loop := s.loop } = s := by cases p <;> rfl

theorem State.portEntersDown_notice (s : State) (p : Port) :
    (s.portEntersDown p).loop.notice = s.loop.notice.map fun n =>
      { n with marks := n.marks.portDown p (s.port p.other).isDown } := by cases p <;> rfl

theorem State.portEntersDown_answers (s : State) (p : Port) :
    (s.portEntersDown p).loop.answers = s.loop.answers.map fun x =>
      { x with segs := x.segs.map fun g =>
          { g with marks := g.marks.portDown p (s.port p.other).isDown } } := by cases p <;> rfl

@[simp] theorem State.portEntersDown_port (s : State) (p : Port) :
    (s.portEntersDown p).port p = (s.port p).enterDown := by simp [State.portEntersDown]

@[simp] theorem State.portEntersDown_port_other (s : State) (p : Port) :
    (s.portEntersDown p).port p.other = s.port p.other := by simp [State.portEntersDown]

theorem State.portEntersDown_slot (s : State) (p : Port) (a : Addr) :
    (s.portEntersDown p).slot a = (s.slot a).map fun o =>
      { o with marks := o.marks.portDown p (s.port p.other).isDown } := by
  simp [State.portEntersDown]

/-- Settles O8: the entry into DOWN is stated before PORT_CHANGE, whose raising then leaves the slots, the
answers and all of the ports but the staleness of an insertion of the notice. -/
theorem lossOfSignalTakesThePortDown : Obligations.LossOfSignalTakesThePortDown := by
  unfold Obligations.LossOfSignalTakesThePortDown
  intro s p move hmove
  have hdown : move = fun m => m.portDown p (s.port p.other).isDown := by
    funext m
    simp only [hmove, Marks.portDown_eq, PortState.isDown_iff]
  subst hdown
  rw [exec_lossOfSignal]
  constructor
  case left =>
    intro down
    rw [s.losePort_of_down p down]
  case right =>
    intro notDown
    rw [s.losePort_of_not_down p notDown]
    refine ⟨_, s.portEntersDown p, rfl, rfl, s.portEntersDown_outside_loop p,
      s.portEntersDown_notice p, ?dup, ?seq, ?port, ?other, ?forwarding, ?inserting, ?flags, ?slots,
      ?answers⟩
    case dup => cases p <;> rfl
    case seq => cases p <;> rfl
    case port => rw [State.raise_port_kept, State.portEntersDown_port]; rfl
    case other => rw [State.raise_port_kept, State.portEntersDown_port_other]
    case forwarding =>
      intro sends
      exact State.raise_forwarding _ _ _ (by rw [State.portEntersDown_port]; exact sends)
    case inserting =>
      intro r f stale inserts
      exact State.raise_inserting _ _ _ (by rw [State.portEntersDown_port]; exact inserts)
    case flags => rw [State.raise_sum]; cases p <;> rfl
    case slots => intro a; rw [State.raise_slot, State.portEntersDown_slot]
    case answers => rw [State.raise_answers, State.portEntersDown_answers]

end Sys2Proof.Machine
end

section
/-! SUPPORT. The late timer of a unit's record (R34, R117): its expiry over the record of any unit, and what
the record becomes for each kind of unit. -/

namespace Sys2Proof.Machine

theorem State.freshness_at (s : State) (d : Nat) (u : UnitRef) :
    (s.at d).freshness u = s.freshness u := by cases u <;> rfl

/-- The part of the change to LATE that is not in the picture store: the shedding unit follows the bus meter
alone (R117). -/
def State.handLate (s : State) : UnitRef → State
  | .genset _ | .pv _ | .feeder _ => s
  | .busmeter => s.shedBusLate

theorem State.lateDone_of_fresh (s : State) (u : UnitRef) (fresh : s.freshness u = .fresh) :
    s.lateDone u = (s.recordLate u).handLate u := by
  have isFresh : (s.freshness u == .fresh) = true := beq_iff_eq.mpr fresh
  rw [State.lateDone, if_pos isFresh]
  cases u <;> rfl

/-- The expiry of a running late timer, for a unit of any kind whose record is FRESH. -/
theorem exec_lateTimerExpiry_of_fresh (s : State) (d : Nat) (u : UnitRef)
    (runs : s.lateTimer u = some d) (fresh : s.freshness u = .fresh) :
    exec (.lateTimerExpiry u) s = .next (((s.at d).recordLate u).handLate u) := by
  have done : s.lateExpiry u = (s.at d).lateDone u := by
    rw [State.lateExpiry, runs, State.expire_some]
  calc exec (.lateTimerExpiry u) s
      = .next (s.lateExpiry u) := rfl
    _ = .next (((s.at d).recordLate u).handLate u) := by
        rw [done, State.lateDone_of_fresh _ _ ((s.freshness_at d u).trans fresh)]

/-- Settles O18: one expiry rule for a unit of any kind, read off for the record of each. -/
theorem lateTimerMakesTheRecordLate : Obligations.LateTimerMakesTheRecordLate := by
  unfold Obligations.LateTimerMakesTheRecordLate
  intro s d
  refine ⟨?genset, ?pv, ?feeder, ?busmeter⟩
  case genset => exact fun g => exec_lateTimerExpiry_of_fresh s d (.genset g)
  case pv => exact fun b => exec_lateTimerExpiry_of_fresh s d (.pv b)
  case feeder => exact fun f => exec_lateTimerExpiry_of_fresh s d (.feeder f)
  case busmeter => exact exec_lateTimerExpiry_of_fresh s d .busmeter

end Sys2Proof.Machine
end

section
/-! SUPPORT. The balance engine's own record (chapter 3) beside the other jobs: the handing on of a round's
results, and of the changes of the sets that they bring about, leaves it as the round has made it. -/

namespace Sys2Proof.Machine

theorem State.bal_of_outsideSeq {s t : State} (h : t.outsideSeq = s.outsideSeq) : t.bal = s.bal :=
  congrArg Prod.fst h

theorem State.bal_of_outsideShed {s t : State} (h : t.outsideShed = s.outsideShed) : t.bal = s.bal :=
  congrArg Prod.fst h

theorem forEach_bal {ι : Type} (f : ι → State → State) (h : ∀ i s, (f i s).bal = s.bal) (is : List ι)
    (s : State) : (forEach is f s).bal = s.bal := by
  unfold forEach
  induction is generalizing s with
  | nil => rfl
  | cons i is ih => exact (ih (f i s)).trans (h i s)

/-! ## The allocator -/

@[simp] theorem State.pvOrder_bal (s : State) (b : Fin 16) (code : OrderCode) (cap : Option Nat)
    (cls : OrderClass) : (s.pvOrder b code cap cls).bal = s.bal :=
  bal_of_outsideSeq (s := s.modPv b _) (State.placeFor_outsideSeq _ _ _ _ _ _)

@[simp] theorem State.applyTarget_bal (s : State) (f : Fractions) (b : Fin 16) :
    (s.applyTarget f b).bal = s.bal := by
  simp only [State.applyTarget, apply_ite State.bal, pvOrder_bal, ite_self]

@[simp] theorem State.recordAllocation_bal (s : State) (f : Fractions) (a : Int) :
    (s.recordAllocation f a).bal = s.bal := by
  unfold State.recordAllocation
  dsimp only
  exact forEach_bal _ (fun b t => t.modPv_bal b _) pvBlocks s

@[simp] theorem State.allocate_bal (s : State) (xCmd a : Int) : (s.allocate xCmd a).bal = s.bal := by
  have each (f : Fractions) (b : Fin 16) (t : State) :
      (if s.inScmd b then t.applyTarget f b else t).bal = t.bal := by
    simp only [apply_ite State.bal, applyTarget_bal, ite_self]
  simp only [State.allocate, apply_ite State.bal, forEach_bal _ (each _), recordAllocation_bal, ite_self]

@[simp] theorem State.pvClearDown_bal (s : State) : s.pvClearDown.bal = s.bal :=
  forEach_bal _ (fun b t => by
    simp only [State.setPvState, apply_ite State.bal, pvOrder_bal, modPv_bal, ite_self]) pvBlocks s

/-! ## The black-start controller, as a change of a set moves it (R139 to R146) -/

@[simp] theorem State.raise_bal (s : State) (f : Flag) : (s.raise f).bal = s.bal :=
  bal_of_outsideSeq (s.raise_outsideSeq f)

@[simp] theorem State.setIsland_bal (s : State) (x : Island) : (s.setIsland x).bal = s.bal := by
  simp [State.setIsland]

@[simp] theorem State.endUf_bal (s : State) : s.endUf.bal = s.bal := rfl

@[simp] theorem State.startRequest_bal (s : State) (named : Option (Fin 8)) (dead : Bool) :
    (s.startRequest named dead).bal = s.bal :=
  bal_of_outsideSeq (s.startRequest_outsideSeq named dead)

@[simp] theorem State.enterAbandoned_bal (s : State) : s.enterAbandoned.bal = s.bal := by
  simp [State.enterAbandoned, bal_of_outsideSeq (State.genAbandon_outsideSeq _)]

@[simp] theorem State.chooseFirstSource_bal (s : State) : s.chooseFirstSource.bal = s.bal := by
  unfold State.chooseFirstSource
  split
  · rfl
  · split
    · rfl
    · exact s.startRequest_bal _ _

@[simp] theorem State.enterFirstSource_bal (s : State) : s.enterFirstSource.bal = s.bal := by
  simp [State.enterFirstSource, apply_ite State.bal]

@[simp] theorem State.applyWaiting_bal (s : State) : s.applyWaiting.bal = s.bal := by
  simp [State.applyWaiting, apply_ite State.bal]

@[simp] theorem State.completeClearDown_bal (s : State) : s.completeClearDown.bal = s.bal := by
  simp [State.completeClearDown, bal_of_outsideShed (State.shedSettle_outsideShed _)]

@[simp] theorem State.judgeSettled_bal (s : State) : s.judgeSettled.bal = s.bal := by
  simp [State.judgeSettled, apply_ite State.bal]

@[simp] theorem State.orderClearDown_bal (s : State) : s.orderClearDown.bal = s.bal := by
  simp [State.orderClearDown, bal_of_outsideSeq (State.genClearDown_outsideSeq _),
    bal_of_outsideShed (State.shedClearDown_outsideShed _)]

@[simp] theorem State.enterBlackout_bal (s : State) : s.enterBlackout.bal = s.bal := by
  simp [State.enterBlackout, apply_ite State.bal, bal_of_outsideShed (State.emptyStack_outsideShed _)]

@[simp] theorem State.judgeBlind_bal (s : State) : s.judgeBlind.bal = s.bal := by
  simp [State.judgeBlind, State.busLost, apply_ite State.bal]

@[simp] theorem State.enterEnergizing_bal (s : State) : s.enterEnergizing.bal = s.bal := by
  simp [State.enterEnergizing]

@[simp] theorem State.energizeFailed_bal (s : State) : s.energizeFailed.bal = s.bal := by
  unfold State.energizeFailed
  dsimp only
  split <;> simp

/-- No change of a set, in whichever island state it is handed on, is one of the events that set the ramp
base (R51, R52) or that replace the figures. -/
@[simp] theorem State.onGenChange_bal (s : State) (c : GenChange) : (s.onGenChange c).bal = s.bal := by
  unfold State.onGenChange
  split
  case isTrue => rfl
  case isFalse =>
    extract_lets t
    have held : t.bal = s.bal := by simp [t, apply_ite State.bal]
    clear_value t
    split <;> simp [apply_ite State.bal, held]

@[simp] theorem drainFuel_bal (n : Nat) (s : State) : (drainFuel n s).bal = s.bal := by
  induction n generalizing s with
  | zero => rfl
  | succ n ih =>
    simp only [drainFuel]
    split
    · rfl
    · rw [ih, State.onGenChange_bal]

@[simp] theorem State.drain_bal (s : State) : s.drain.bal = s.bal := drainFuel_bal 512 s

/-! ## The handing on of a round (R61) -/

@[simp] theorem State.roundComplete_bal (s : State) (m : Int) : (s.roundComplete m).bal = s.bal :=
  bal_of_outsideSeq (s.roundComplete_outsideSeq m)

@[simp] theorem State.stopSet_bal (s : State) (g : Fin 8) : (s.stopSet g).bal = s.bal :=
  bal_of_outsideSeq (s.stopSet_outsideSeq g)

@[simp] theorem State.reducedDemand_bal (s : State) (q : Int) (reason : ShedReason) :
    (s.reducedDemand q reason).bal = s.bal :=
  bal_of_outsideShed (s.reducedDemand_outsideShed q reason)

@[simp] theorem State.handRound_bal (s : State) : s.handRound.bal = s.bal := by
  have requests : ∀ (t : State) (k : Option (Fin 8)),
      (match k with | none => t | some k => t.stopSet k).bal = t.bal := by
    rintro t (_ | k)
    · rfl
    · exact t.stopSet_bal k
  have demands : ∀ (t : State) (q : Option Int),
      (match q with | none => t | some q => t.reducedDemand q .deficit).bal = t.bal := by
    rintro t (_ | q)
    · rfl
    · exact t.reducedDemand_bal q .deficit
  unfold State.handRound
  simp only [State.drain_bal]
  refine (demands _ _).trans ((requests _ _).trans ?_)
  simp [apply_ite State.bal]

end Sys2Proof.Machine
end

section
/-! SUPPORT. A balance round (R44 to R60): who is a member of the sums, what the figures and the decisions
come to, and what the expiry of the round timer makes of the engine. -/

namespace Sys2Proof.Machine

/-! ## Memberships and sums (R47, R48) -/

theorem Island.live_iff (i : Island) :
    i.live = true ↔ i = .balancing ∨ i = .restoring ∨ i = .pvReturn := by
  cases i <;> simp [Island.live]

theorem Freshness.isLost_iff (x : Freshness) : x.isLost = true ↔ x = .lost := by
  cases x <;> simp [Freshness.isLost]

theorem Freshness.isLost_eq_false_iff (x : Freshness) : x.isLost = false ↔ x ≠ .lost := by
  rw [← Bool.not_eq_true, x.isLost_iff]

theorem GenState.starting_iff (x : GenState) :
    x.starting = true ↔ x = .cranking ∨ x = .resting ∨ x = .warmup ∨ x = .syncing := by
  cases x <;> simp [GenState.starting]

theorem State.inGon_iff (s : State) (g : Fin 8) :
    s.inGon g = true ↔
      (s.genCfg g).configured = true ∧ (s.gen g).state = .online ∧ (s.genRec g).fresh ≠ .lost := by
  simp [State.inGon, State.genLost, Freshness.isLost_eq_false_iff, and_assoc]

theorem State.inGunl_iff (s : State) (g : Fin 8) :
    s.inGunl g = true ↔ (s.genCfg g).configured = true ∧ (s.gen g).state = .unloading := by
  simp [State.inGunl]

theorem State.inGunseen_iff (s : State) (g : Fin 8) :
    s.inGunseen g = true ↔ (s.genCfg g).configured = true ∧ (s.gen g).state = .unseen := by
  simp [State.inGunseen]

theorem State.underWay_iff (s : State) (g : Fin 8) :
    s.underWay g = true ↔ (s.genCfg g).configured = true ∧
      ((s.gen g).state = .cranking ∨ (s.gen g).state = .resting ∨ (s.gen g).state = .warmup ∨
        (s.gen g).state = .hot ∨ (s.gen g).state = .syncing) := by
  simp only [State.underWay, Bool.and_eq_true, Bool.or_eq_true, beq_iff_eq, GenState.starting_iff]
  tauto

theorem State.inScmd_iff (s : State) (b : Fin 16) :
    s.inScmd b = true ↔
      (s.pvCfg b).configured = true ∧ (s.pv b).state = .on ∧ (s.pvRec b).fresh ≠ .lost := by
  simp [State.inScmd, Freshness.isLost_eq_false_iff, and_assoc]

theorem State.inSlost_iff (s : State) (b : Fin 16) :
    s.inSlost b = true ↔
      (s.pvCfg b).configured = true ∧ (s.pv b).state = .on ∧ (s.pvRec b).fresh = .lost := by
  simp [State.inSlost, Freshness.isLost_iff, and_assoc]

theorem eq_of_same_members {ι : Type} {p q : ι → Bool} {member : ι → Prop}
    (hp : ∀ i, p i = true ↔ member i) (hq : ∀ i, q i = true ↔ member i) : p = q :=
  funext fun i => Bool.eq_iff_iff.mpr ((hp i).trans (hq i).symm)

/-- A sum over the members of a set is the sum over all units with 0 for those that are not members. -/
theorem sumOver_eq_sum_ite {ι : Type} (is : List ι) (p : ι → Bool) (f : ι → Nat) :
    sumOver is p f = (is.map fun i => if p i = true then f i else 0).sum := by
  unfold sumOver
  induction is with
  | nil => rfl
  | cons i is ih => cases member : p i <;> simp [member, ih]

/-! ## The cover (R53) -/

/-- The cover in a reserve is the least whole number of kilowatts that is not below the exact one. -/
theorem reserve_spec (base cover : Nat) (x r : Int) (h : r = base + coverOf cover x) :
    (cover : Int) * x ≤ 100 * (r - base) ∧ 100 * (r - base) < (cover : Int) * x + 100 := by
  subst h
  unfold coverOf
  omega

/-! ## The greatest by rank (R56) -/

theorem greatestBy_eq_none_iff {ι : Type} (f : ι → Nat) (is : List ι) :
    greatestBy f is = none ↔ is = [] := by
  cases is with
  | nil => simp [greatestBy]
  | cons i is =>
    simp only [greatestBy, reduceCtorEq, iff_false]
    split
    · simp
    · split <;> simp

/-- The one chosen is a member of the list, and no member has a greater value. -/
theorem greatestBy_spec {ι : Type} (f : ι → Nat) (is : List ι) (k : ι) (h : greatestBy f is = some k) :
    k ∈ is ∧ ∀ j ∈ is, f j ≤ f k := by
  induction is generalizing k with
  | nil => cases h
  | cons i is ih =>
    rw [greatestBy] at h
    split at h
    next empty =>
      cases h
      rw [(greatestBy_eq_none_iff f is).mp empty]
      simp
    next best chosen =>
      obtain ⟨member, greatest⟩ := ih best chosen
      split at h
      next above =>
        cases h
        exact ⟨List.mem_cons_of_mem _ member, List.forall_mem_cons.mpr ⟨above.le, greatest⟩⟩
      next notAbove =>
        cases h
        exact ⟨List.mem_cons_self, List.forall_mem_cons.mpr
          ⟨le_rfl, fun j hj => (greatest j hj).trans (not_lt.mp notAbove)⟩⟩

/-! ## Decisions (R54 to R59) -/

theorem State.startDwellNext_eq (s : State) (f : Figures) :
    s.startDwellNext f =
      if s.mode.mode = .commissioning then 0
      else if f.m < 0 then min (s.bal.startDwell + 1) s.act.startDwell else 0 := by
  simp [State.startDwellNext]

theorem State.needsStart_iff (s : State) (f : Figures) :
    s.needsStart f = true ↔
      match s.mode.mode with
      | .auto => f.cOn < f.dd ∨ s.act.startDwell ≤ s.startDwellNext f
      | .hold => f.cOn < f.dd
      | .commissioning => False := by
  unfold State.needsStart
  cases s.mode.mode <;> simp

theorem State.passesStart_iff (s : State) (f : Figures) :
    s.passesStart f = true ↔
      s.needsStart f = true ∧ (f.m + f.pPend < 0 ∨ f.cOn + f.pPend < f.dd) := by
  simp [State.passesStart]

theorem mem_gensets (g : Fin 8) : g ∈ gensets := List.mem_finRange g

theorem State.mayTestStop_iff (s : State) :
    s.mayTestStop = true ↔ s.bs.island = .balancing ∧ s.mode.mode = .auto ∧
      (∀ g, s.underWay g = false ∧ s.inGunl g = false) ∧ 2 ≤ (gensets.filter s.inGon).length := by
  simp [State.mayTestStop, mem_gensets, and_assoc]

theorem State.stopCandidate_eq_none_iff (s : State) :
    s.stopCandidate = none ↔ ∀ g, s.inGon g = true → (s.gen g).minRun ≠ .expired := by
  simp [State.stopCandidate, greatestBy_eq_none_iff, mem_gensets]

theorem State.stopCandidate_spec (s : State) (k : Fin 8) (h : s.stopCandidate = some k) :
    s.inGon k = true ∧ (s.gen k).minRun = .expired ∧
      ∀ g, s.inGon g = true → (s.gen g).minRun = .expired →
        (s.genCfg g).startRank ≤ (s.genCfg k).startRank := by
  obtain ⟨member, greatest⟩ := greatestBy_spec _ _ _ h
  simp only [List.mem_filter, mem_gensets, true_and, Bool.and_eq_true, beq_iff_eq] at member greatest
  exact ⟨member.1, member.2, fun g on expired => greatest g ⟨on, expired⟩⟩

theorem State.roundCandidate_eq_none_iff (s : State) (f : Figures) :
    s.roundCandidate f = none ↔
      ¬ (s.mayTestStop = true ∧ s.passesStart f = false) ∨ s.stopCandidate = none := by
  unfold State.roundCandidate
  split <;> simp_all

theorem State.roundCandidate_eq_some_iff (s : State) (f : Figures) (k : Fin 8) :
    s.roundCandidate f = some k ↔
      (s.mayTestStop = true ∧ s.passesStart f = false) ∧ s.stopCandidate = some k := by
  simp [State.roundCandidate]

theorem State.stopDwellNext_eq (s : State) (f : Figures) (k : Fin 8) :
    s.stopDwellNext f k =
      if (s.act.stopMargin : Int) ≤ (s.stopFigures f k).m then
        min ((if s.bal.stopCand = some k then s.bal.stopDwell else 0) + 1) s.act.stopDwell
      else 0 := by
  simp [State.stopDwellNext]

theorem State.passesStop_iff (s : State) (f : Figures) (k : Fin 8) :
    s.passesStop f k = true ↔
      (s.act.stopMargin : Int) ≤ (s.stopFigures f k).m ∧ s.act.stopDwell ≤ s.stopDwellNext f k := by
  simp [State.passesStop]

theorem State.inDeficit_iff (s : State) (f : Figures) :
    s.inDeficit f = true ↔
      s.bs.island = .balancing ∧ s.mode.mode ≠ .commissioning ∧ f.cOn + f.pPend < f.dd := by
  simp [State.inDeficit, and_assoc]

/-! ## The engine after a computed round -/

/-- A round without a candidate leaves no stop test behind (R58). -/
theorem State.roundBalance_of_no_candidate (s : State)
    (h : s.roundCandidate s.roundFigures = none) :
    s.roundBalance.fig.stop = none ∧ s.roundBalance.fig.stopRequest = none ∧
      s.roundBalance.stopDwell = 0 := by
  simp [State.roundBalance, h]

/-- The stop test of a round's candidate (R57, R58). -/
theorem State.roundBalance_of_candidate (s : State) (k : Fin 8)
    (h : s.roundCandidate s.roundFigures = some k) :
    s.roundBalance.fig.stop = some (s.stopFigures s.roundFigures k) ∧
      s.roundBalance.stopDwell = s.stopDwellNext s.roundFigures k ∧
      s.roundBalance.fig.stopRequest =
        if s.passesStop s.roundFigures k = true then some k else none := by
  simp [State.roundBalance, h, Option.filter]

/-- The deficit dwell of a round, and its demand (R59). -/
theorem State.roundBalance_deficit (s : State) (f : Figures) (hf : f = s.roundFigures) :
    if s.bs.island = .balancing ∧ s.mode.mode ≠ .commissioning ∧ f.cOn + f.pPend < f.dd then
      if s.act.deficitDwell ≤ s.bal.deficitDwell + 1 then
        s.roundBalance.fig.deficit = some (f.dd - f.cOn - f.pPend) ∧ s.roundBalance.deficitDwell = 0
      else s.roundBalance.fig.deficit = none ∧ s.roundBalance.deficitDwell = s.bal.deficitDwell + 1
    else s.roundBalance.fig.deficit = none ∧ s.roundBalance.deficitDwell = 0 := by
  simp only [← State.inDeficit_iff]
  subst hf
  split
  next short =>
    split
    next long => simp [State.roundBalance, State.passesDeficit, short, long]
    next notLong => simp [State.roundBalance, State.passesDeficit, short, notLong]
  next covered => simp [State.roundBalance, State.passesDeficit, covered]

/-- What the expiry of the round timer makes of the engine, where the round is computed. -/
theorem exec_roundTimerExpiry_of_live (s u : State) (d : Nat) (runs : s.bal.roundTimer = some d)
    (boundary : u = (s.at d).commitBoundary) (live : u.bs.island.live = true) :
    ∃ t, exec .roundTimerExpiry s = .next t ∧
      t.bal = { u.roundBalance with roundTimer := some (u.clock + u.act.roundPeriod) } := by
  have computed : s.roundExpiry = u.restartRound.computedRound := by
    rw [State.roundExpiry, runs, State.expire_some, ← boundary, State.round]
    exact if_pos live
  refine ⟨s.roundExpiry, rfl, ?_⟩
  rw [computed, State.computedRound, State.handRound_bal]
  rfl

/-- The expiry of the round timer, where no commit is pending and the round is not computed. -/
theorem exec_roundTimerExpiry_of_not_live (s : State) (d : Nat) (runs : s.bal.roundTimer = some d)
    (noCommit : s.bank.pending = false) (idle : s.bs.island.live = false) :
    exec .roundTimerExpiry s = .next (s.at d).restartRound.uncomputedRound := by
  have boundary : (s.at d).commitBoundary = s.at d := by
    simp [State.commitBoundary, noCommit]
  calc exec .roundTimerExpiry s
      = .next s.roundExpiry := rfl
    _ = .next (s.at d).restartRound.round := by
        rw [State.roundExpiry, runs, State.expire_some, boundary]
    _ = .next (s.at d).restartRound.uncomputedRound := by
        rw [State.round, if_neg (by simp [State.restartRound, idle])]

/-- Settles O20: no commit takes the boundary, and the round is not computed. -/
theorem uncomputedRoundClearsTheDwells : Obligations.UncomputedRoundClearsTheDwells := by
  unfold Obligations.UncomputedRoundClearsTheDwells
  intro s d runs noCommit idle
  exact exec_roundTimerExpiry_of_not_live s d runs noCommit idle

/-- Settles O21: the memberships are those of the model, the figures are read off `roundFigures`, and each
decision off its own rule, the handing on leaving all of them. -/
theorem computedRoundFigures : Obligations.ComputedRoundFigures := by
  unfold Obligations.ComputedRoundFigures
  refine ⟨Island.live_iff, ?values, fun is js p q f h =>
    ⟨sumOver_eq_sum_ite is p f, sumOver_eq_sum_ite js q h⟩, ?round⟩
  case values =>
    intro s g b
    refine ⟨?genOut, ?pvOut, ?pvAvail, s.inScmd_iff b, sumOver_eq_sum_ite _ _ _, sumOver_eq_sum_ite _ _ _⟩
    case genOut => unfold State.genOut; cases (s.genRec g).vals <;> rfl
    case pvOut => unfold State.pvOut; cases (s.pvRec b).vals <;> rfl
    case pvAvail => unfold State.pvAvail; cases (s.pvRec b).vals <;> rfl
  case round =>
    intro s u d gOn gUnl gUnseen busy sCmd sLost runs boundary live hOn hUnl hUnseen hBusy hCmd hLost
    obtain rfl : gOn = u.inGon := eq_of_same_members hOn u.inGon_iff
    obtain rfl : gUnl = u.inGunl := eq_of_same_members hUnl u.inGunl_iff
    obtain rfl : gUnseen = u.inGunseen := eq_of_same_members hUnseen u.inGunseen_iff
    obtain rfl : busy = u.underWay := eq_of_same_members hBusy u.underWay_iff
    obtain rfl : sCmd = u.inScmd := eq_of_same_members hCmd u.inScmd_iff
    obtain rfl : sLost = u.inSlost := eq_of_same_members hLost u.inSlost_iff
    obtain ⟨t, expires, bal⟩ := exec_roundTimerExpiry_of_live s u d runs boundary live
    refine ⟨t, t.bal.fig, expires, rfl, ?_⟩
    rw [bal]
    obtain ⟨coverLow, coverHigh⟩ := reserve_spec u.act.reserveBase u.act.cover _ u.roundFigures.rReq rfl
    refine ⟨rfl, rfl, rfl, rfl, rfl, rfl, rfl, rfl, rfl, rfl, rfl, rfl, rfl, rfl, rfl, rfl, coverLow,
      coverHigh, rfl, rfl, rfl, decide_eq_true_iff, u.startDwellNext_eq _, ?need, u.passesStart_iff _,
      ?stop, ?deficit⟩
    case need => exact u.needsStart_iff _
    case deficit => exact u.roundBalance_deficit u.roundFigures rfl
    case stop =>
      intro test hTest
      have tested : test ↔ u.mayTestStop = true ∧ u.passesStart u.roundFigures = false := by
        rw [hTest, State.mayTestStop_iff, and_assoc, and_assoc, and_assoc]
        rfl
      split
      next noCandidate =>
        obtain ⟨stop, request, dwell⟩ := u.roundBalance_of_no_candidate noCandidate
        rw [tested, ← State.stopCandidate_eq_none_iff]
        exact ⟨(u.roundCandidate_eq_none_iff _).mp noCandidate, stop, request, dwell⟩
      next k candidate =>
        obtain ⟨stop, dwell, request⟩ := u.roundBalance_of_candidate k candidate
        obtain ⟨mayTest, chosen⟩ := (u.roundCandidate_eq_some_iff _ k).mp candidate
        obtain ⟨on, expired, greatest⟩ := u.stopCandidate_spec k chosen
        obtain ⟨low, high⟩ := reserve_spec u.act.reserveBase u.act.cover _
          (u.stopFigures u.roundFigures k).r rfl
        refine ⟨tested.mpr mayTest, on, expired, greatest, _, stop, rfl, rfl, rfl, low, high, rfl,
          dwell.trans (u.stopDwellNext_eq _ k), request.trans ?_⟩
        simp only [State.passesStop_iff, dwell]

end Sys2Proof.Machine
end

section
/-! SUPPORT. What the black-start controller leaves as it is at a change of a set (R139 to R146), for any
reading of the state, and the allocation record (R73) as such a reading. -/

namespace Sys2Proof.Machine

/-! ## Walks over a list of indices -/

theorem forEach_keeps {ι σ α : Type} (φ : σ → α) (f : ι → σ → σ) (is : List ι)
    (h : ∀ i ∈ is, ∀ s, φ (f i s) = φ s) (s : σ) : φ (forEach is f s) = φ s := by
  unfold forEach
  induction is generalizing s with
  | nil => rfl
  | cons i is ih =>
    obtain ⟨first, later⟩ := List.forall_mem_cons.mp h
    exact (ih later (f i s)).trans (first s)

/-- A walk over distinct indices does to what index `j` alone changes as its one visit to `j` does. -/
theorem forEach_at {ι σ α : Type} (φ : σ → α) (f : ι → σ → σ) (j : ι)
    (other : ∀ i s, i ≠ j → φ (f i s) = φ s) (is : List ι) (distinct : is.Nodup) (member : j ∈ is)
    (s : σ) :
    ∃ x, φ x = φ s ∧ φ (forEach is f s) = φ (f j x) := by
  induction is generalizing s with
  | nil => cases member
  | cons i is ih =>
    obtain ⟨fresh, rest⟩ := List.nodup_cons.mp distinct
    by_cases hij : i = j
    · subst hij
      exact ⟨s, rfl, forEach_keeps φ f is (fun k hk t => other k t fun e => fresh (e ▸ hk)) (f i s)⟩
    · obtain ⟨x, before, visit⟩ :=
        ih rest ((List.mem_cons.mp member).resolve_left (Ne.symm hij)) (f i s)
      exact ⟨x, before.trans (other i s hij), visit⟩

/-! ## Readings that the controller keeps -/

/-- A reading of the state that neither the sequencer nor the shedding unit changes, nor the controller in its
own record, nor the clear-down at the allocator. -/
structure ControlKeeps {α : Type} (φ : State → α) : Prop where
  seq : ∀ {s t : State}, t.outsideSeq = s.outsideSeq → φ t = φ s
  shed : ∀ {s t : State}, t.outsideShed = s.outsideShed → φ t = φ s
  modBs : ∀ (s : State) (f : BlackStart → BlackStart), φ (s.modBs f) = φ s
  pvClearDown : ∀ s : State, φ s.pvClearDown = φ s

namespace ControlKeeps

variable {α : Type} {φ : State → α}

theorem raise (k : ControlKeeps φ) (s : State) (f : Flag) : φ (s.raise f) = φ s :=
  k.seq (s.raise_outsideSeq f)

theorem setIsland (k : ControlKeeps φ) (s : State) (x : Island) : φ (s.setIsland x) = φ s :=
  (k.raise _ _).trans (k.modBs s _)

theorem endUf (k : ControlKeeps φ) (s : State) : φ s.endUf = φ s := k.shed s.endUf_outsideShed

theorem enterAbandoned (k : ControlKeeps φ) (s : State) : φ s.enterAbandoned = φ s := by
  simp only [State.enterAbandoned, k.modBs, k.endUf, k.seq (State.genAbandon_outsideSeq _), k.raise,
    k.setIsland]

theorem chooseFirstSource (k : ControlKeeps φ) (s : State) : φ s.chooseFirstSource = φ s := by
  unfold State.chooseFirstSource
  split
  · rfl
  · split
    · rfl
    · exact k.seq (s.startRequest_outsideSeq _ _)

theorem enterFirstSource (k : ControlKeeps φ) (s : State) : φ s.enterFirstSource = φ s := by
  simp only [State.enterFirstSource, apply_ite φ, k.enterAbandoned, k.chooseFirstSource, k.endUf,
    k.setIsland, ite_self]

theorem judgeSettled (k : ControlKeeps φ) (s : State) : φ s.judgeSettled = φ s := by
  have waiting (t : State) : φ t.applyWaiting = φ t := by
    simp only [State.applyWaiting, apply_ite φ, k.enterFirstSource, ite_self]
  simp only [State.judgeSettled, State.completeClearDown, apply_ite φ, waiting, k.modBs,
    k.shed (State.shedSettle_outsideShed _), ite_self]

theorem enterBlackout (k : ControlKeeps φ) (s : State) : φ s.enterBlackout = φ s := by
  simp only [State.enterBlackout, State.orderClearDown, apply_ite φ, k.judgeSettled,
    k.seq (State.genClearDown_outsideSeq _), k.pvClearDown, k.shed (State.shedClearDown_outsideShed _),
    k.modBs, k.shed (State.emptyStack_outsideShed _), k.endUf, k.setIsland, ite_self]

theorem judgeBlind (k : ControlKeeps φ) (s : State) : φ s.judgeBlind = φ s := by
  simp only [State.judgeBlind, State.busLost, apply_ite φ, k.enterBlackout, k.enterAbandoned, ite_self]

theorem onGenChange (k : ControlKeeps φ) (s : State) (c : GenChange) : φ (s.onGenChange c) = φ s := by
  unfold State.onGenChange
  split
  case isTrue => rfl
  case isFalse =>
    extract_lets t
    have held : φ t = φ s := by simp only [t, apply_ite φ, k.modBs, ite_self]
    clear_value t
    split <;> simp only [apply_ite φ, State.enterEnergizing, State.energizeFailed, k.judgeBlind,
      k.enterAbandoned, k.enterFirstSource, k.chooseFirstSource, k.setIsland, k.modBs, held, ite_self]

theorem drain (k : ControlKeeps φ) (s : State) : φ s.drain = φ s := by
  have fuelled (n : Nat) : ∀ t : State, φ (drainFuel n t) = φ t := by
    induction n with
    | zero => exact fun t => k.seq rfl
    | succ n ih =>
      intro t
      simp only [drainFuel]
      split
      · rfl
      · rw [ih, k.onGenChange]
        exact k.seq rfl
  exact fuelled 512 s

end ControlKeeps

/-! ## The allocation record (R73) -/

/-- The record of the last allocation: the fractions, the allotment sum, U, the allotments. -/
def State.allocation (s : State) : Vector Nat 4 × Int × Int × (Fin 16 → Option Nat) :=
  (s.cur.fractions, s.cur.sum, s.cur.u, fun b => (s.pv b).allotment)

theorem State.allocation_of_cur {s t : State} (h : t.cur = s.cur) : t.allocation = s.allocation := by
  simp only [State.allocation, State.pv, h]

/-- Nothing that leaves the allotment in a block's job touches the record. -/
theorem State.modPv_allocation (s : State) (b : Fin 16) (f : PvJob → PvJob)
    (h : ∀ j, (f j).allotment = j.allotment) : (s.modPv b f).allocation = s.allocation := by
  have allotments : (fun c => ((s.modPv b f).pv c).allotment) = fun c => (s.pv c).allotment := by
    funext c
    by_cases hc : c = b
    · subst hc
      rw [State.modPv_pv, h]
    · rw [State.modPv_pv_other _ _ _ _ hc]
  unfold State.allocation
  rw [allotments]
  rfl

theorem State.placeFor_cur (s : State) (u : UnitRef) (code : OrderCode) (tag : Byte) (cap : Nat)
    (cls : OrderClass) : (s.placeFor u code tag cap cls).cur = s.cur :=
  congrArg (·.2.1) (s.placeFor_outsideSeq u code tag cap cls)

@[simp] theorem State.pvOrder_allocation (s : State) (b : Fin 16) (code : OrderCode) (cap : Option Nat)
    (cls : OrderClass) : (s.pvOrder b code cap cls).allocation = s.allocation :=
  (allocation_of_cur (State.placeFor_cur _ _ _ _ _ _)).trans (s.modPv_allocation b _ fun _ => rfl)

@[simp] theorem State.setPvState_allocation (s : State) (b : Fin 16) (x : PvState) :
    (s.setPvState b x).allocation = s.allocation := s.modPv_allocation b _ fun _ => rfl

@[simp] theorem State.pvClearDown_allocation (s : State) : s.pvClearDown.allocation = s.allocation :=
  forEach_keeps State.allocation _ pvBlocks (fun b _ t => by
    simp only [apply_ite State.allocation, pvOrder_allocation, setPvState_allocation, ite_self]) s

theorem controlKeeps_allocation : ControlKeeps State.allocation where
  seq h := State.allocation_of_cur (congrArg (·.2.1) h)
  shed h := State.allocation_of_cur (congrArg (·.2.1) h)
  modBs _ _ := rfl
  pvClearDown := State.pvClearDown_allocation

end Sys2Proof.Machine
end

section
/-! SUPPORT. The commit boundary (R175, R176) and the record of the balance engine. -/

namespace Sys2Proof.Machine

@[simp] theorem State.pictureUnit_bal (s : State) (old new : Bank) (u : UnitRef) :
    (s.pictureUnit old new u).bal = s.bal := by
  have lost : (s.recordLost u).bal = s.bal := by cases u <;> rfl
  unfold State.pictureUnit
  split
  · cases u <;> rfl
  · cases u <;> simp only [apply_ite State.bal, State.modGenRec_bal, State.modPvRec_bal, lost, ite_self]

@[simp] theorem State.commitGen_bal (s : State) (old new : Bank) (wasLost : Bool) (g : Fin 8) :
    (s.commitGen old new wasLost g).bal = s.bal := by
  refine bal_of_outsideSeq ?_
  simp only [State.commitGen, apply_ite State.outsideSeq, State.modGen_outsideSeq,
    State.setGenState_outsideSeq, State.genGoesLost_outsideSeq, ite_self]

@[simp] theorem State.commitJobs_bal (s t : State) (old new : Bank) :
    (s.commitJobs t old new).bal = t.bal := by
  have pvs (x : State) : (forEach pvBlocks (fun b t => t.commitPv old new b) x).bal = x.bal :=
    forEach_bal _ (fun b x => by simp only [State.commitPv, apply_ite State.bal, State.modPv_bal, ite_self])
      pvBlocks x
  have gens (x : State) :
      (forEach gensets (fun g t => t.commitGen old new (s.genLost g) g) x).bal = x.bal :=
    forEach_bal _ (fun g x => x.commitGen_bal old new _ g) gensets x
  have fdrs (x : State) : (forEach feeders (fun f t => t.commitFdr old new f) x).bal = x.bal :=
    forEach_bal _ (fun f x => by
      simp only [State.commitFdr, State.unstack, apply_ite State.bal, State.modFdr_bal, ite_self]) feeders x
  simp only [State.commitJobs, apply_ite State.bal, bal_of_outsideShed (State.shedBusLost_outsideShed _),
    fdrs, bal_of_outsideSeq (endStarts_outsideSeq _ _), gens, pvs, ite_self]

@[simp] theorem State.commitController_bal (s t : State) (old new : Bank) :
    (s.commitController t old new).bal = t.bal := by
  simp [State.commitController, State.enterSurvey, apply_ite State.bal]

@[simp] theorem State.emptyOldSlots_bal (s : State) (old new : Bank) :
    (s.emptyOldSlots old new).bal = s.bal :=
  forEach_bal _ (fun u t => by
    split
    · split <;> rfl
    · rfl) allUnits s

@[simp] theorem State.emptyOffOrder_bal (s : State) (old new : Bank) :
    (s.emptyOffOrder old new).bal = s.bal :=
  forEach_bal _ (fun e t => by
    split
    · split
      · rfl
      · split
        · rfl
        · split <;> rfl
    · rfl) s.shed.stack s

/-- A commit that takes effect, or is dropped, leaves the ramp base and the figures. -/
@[simp] theorem State.commitBoundary_bal (s : State) : s.commitBoundary.bal = s.bal := by
  have effect : s.commitEffect.bal = s.bal := by
    simp [State.commitEffect, State.copyShadow, forEach_bal _ (fun u t => t.pictureUnit_bal _ _ u)]
  unfold State.commitBoundary
  split
  · rfl
  · split
    · split
      · exact effect
      · rfl
    · rfl

end Sys2Proof.Machine
end

section
/-! SUPPORT. What the set sequencer and the shedding unit do with the results of a round (R61), as the
curtailment allocator sees it: its jobs and the slots of its stations stay, and no set leaves the line. -/

namespace Sys2Proof.Machine

/-! ## The slot of a PV block's station -/

/-- What waits at the station of a PV block. -/
def State.pvSlot (s : State) (b : Fin 16) : Option OrderSlot := (s.act.stationOf (.pv b)).bind s.slot

theorem State.pvSlot_of_station {s : State} {b : Fin 16} {a : Addr}
    (h : s.act.stationOf (.pv b) = some a) : s.pvSlot b = s.slot a := by
  simp [State.pvSlot, h]

theorem Bank.station_of_stationOf {k : Bank} {u : UnitRef} {a : Addr} (h : k.stationOf u = some a) :
    k.station[a] = some u :=
  beq_iff_eq.mp (List.find?_some (p := fun a => k.station[a] == some u) h)

/-- No two units have one station address. -/
theorem Bank.stationOf_inj {k : Bank} {u w : UnitRef} {a : Addr} (hu : k.stationOf u = some a)
    (hw : k.stationOf w = some a) : u = w :=
  Option.some.inj ((station_of_stationOf hu).symm.trans (station_of_stationOf hw))

/-- A change of the slot at another unit's station is not seen. -/
theorem State.pvSlot_of_other_station {s t : State} {b : Fin 16} {u : UnitRef} {a : Addr} (hu : u ≠ .pv b)
    (station : s.act.stationOf u = some a) (act : t.act = s.act)
    (others : ∀ c, c ≠ a → t.slot c = s.slot c) : t.pvSlot b = s.pvSlot b := by
  unfold State.pvSlot
  rw [act]
  cases h : s.act.stationOf (.pv b) with
  | none => rfl
  | some c => exact others c fun e => hu (Bank.stationOf_inj (e ▸ station) h)

theorem State.placeFor_pvSlot_other (s : State) {u : UnitRef} (code : OrderCode) (tag : Byte) (cap : Nat)
    (cls : OrderClass) {b : Fin 16} (hu : u ≠ .pv b) :
    (s.placeFor u code tag cap cls).pvSlot b = s.pvSlot b := by
  unfold State.placeFor
  split
  next => rfl
  next a station =>
    exact pvSlot_of_other_station hu station rfl fun c hc => s.place_slot_other a c code tag cap cls hc

theorem State.emptyFor_pvSlot_other (s : State) {u : UnitRef} {b : Fin 16} (hu : u ≠ .pv b) :
    (s.emptyFor u).pvSlot b = s.pvSlot b := by
  unfold State.emptyFor
  split
  next => rfl
  next a station => exact pvSlot_of_other_station hu station rfl fun c hc => s.emptySlot_slot_other a c hc

/-! ## Operations that spare the allocator -/

/-- The changes not yet handed on take no set off the line, so that none can bring about a blind bus (R139). -/
def State.KeepsSources (s : State) : Prop :=
  ∀ c ∈ s.seq.changes, c.old.onLine = true → c.new.onLine = true

/-- From `s` to `t` the allocator, the controller and the slots of the PV stations are as they were, and no set
has been noted to leave the line. -/
structure State.Spares (s t : State) : Prop where
  kept : t.kept = s.kept
  cur : t.cur = s.cur
  bs : t.bs = s.bs
  slots : ∀ b, t.pvSlot b = s.pvSlot b
  sources : s.KeepsSources → t.KeepsSources

theorem State.KeepsSources.of_seq {s t : State} (seq : t.seq = s.seq) (h : s.KeepsSources) :
    t.KeepsSources := by
  unfold KeepsSources
  rw [seq]
  exact h

namespace State.Spares

open State.KeepsSources (of_seq)

theorem refl (s : State) : s.Spares s := ⟨rfl, rfl, rfl, fun _ => rfl, id⟩

theorem trans {s t u : State} (h : s.Spares t) (k : t.Spares u) : s.Spares u :=
  ⟨k.kept.trans h.kept, k.cur.trans h.cur, k.bs.trans h.bs, fun b => (k.slots b).trans (h.slots b),
    k.sources ∘ h.sources⟩

/-- An order of a set or of a feeder. -/
theorem placeFor (s : State) {u : UnitRef} (hu : ∀ b, u ≠ .pv b) (code : OrderCode) (tag : Byte) (cap : Nat)
    (cls : OrderClass) : s.Spares (s.placeFor u code tag cap cls) where
  kept := s.placeFor_kept u code tag cap cls
  cur := s.placeFor_cur u code tag cap cls
  bs := congrArg (·.2.2.2) (s.placeFor_outsideSeq u code tag cap cls)
  slots b := s.placeFor_pvSlot_other code tag cap cls (hu b)
  sources := of_seq (congrArg (·.1) (s.placeFor_outsideCurtail u code tag cap cls))

theorem emptyFor (s : State) {u : UnitRef} (hu : ∀ b, u ≠ .pv b) : s.Spares (s.emptyFor u) where
  kept := s.emptyFor_kept u
  cur := congrArg (·.2.1) (s.emptyFor_outsideSeq u)
  bs := congrArg (·.2.2.2) (s.emptyFor_outsideSeq u)
  slots b := s.emptyFor_pvSlot_other (hu b)
  sources := of_seq (congrArg (·.1) (s.emptyFor_outsideCurtail u))

theorem raise (s : State) (f : Flag) : s.Spares (s.raise f) := by
  obtain ⟨-, cur, seq, -, bs⟩ := s.raise_jobs f
  have act : (s.raise f).act = s.act := congrArg (·.bank.active) (s.raise_kept f)
  refine ⟨s.raise_kept f, cur, bs, fun b => ?_, of_seq seq⟩
  simp only [State.pvSlot, act, funext (s.raise_slot f)]

theorem ite {c : Prop} [Decidable c] {s t u : State} (h : c → s.Spares t) (k : ¬ c → s.Spares u) :
    s.Spares (if c then t else u) := by
  split
  next hc => exact h hc
  next hc => exact k hc

/-! ### The set sequencer -/

theorem modGen (s : State) (g : Fin 8) (f : GenJob → GenJob) : s.Spares (s.modGen g f) :=
  ⟨rfl, rfl, rfl, fun _ => rfl, id⟩

theorem startSup (s : State) (g : Fin 8) (sec : Nat) : s.Spares (s.startSup g sec) := modGen s g _

theorem genOrder (s : State) (g : Fin 8) (code : OrderCode) : s.Spares (s.genOrder g code) := by
  refine .ite (fun _ => refl s) fun _ => .ite (fun _ => ?_) fun _ => ?_
  · exact (modGen s g _).trans (emptyFor _ fun _ => UnitRef.noConfusion)
  · exact (modGen s g _).trans (placeFor _ (fun _ => UnitRef.noConfusion) _ _ _ _)

/-- A change of state of a set that was not on line, or stays on line. -/
theorem setGenState (s : State) (g : Fin 8) (x : GenState) (keep : Bool)
    (h : (s.gen g).state.onLine = true → x.onLine = true) : s.Spares (s.setGenState g x keep) := by
  refine (modGen s g _).trans
    (.ite (fun _ => refl _) fun _ => ⟨rfl, rfl, rfl, fun _ => rfl, fun noted => ?_⟩)
  intro c hc
  obtain old | new := List.mem_append.mp hc
  · exact noted c old
  · cases List.mem_singleton.mp new
    exact h

theorem enterSyncing (s : State) (g : Fin 8) (dead : Bool) (h : (s.gen g).state.onLine = false) :
    s.Spares (s.enterSyncing g dead) :=
  ((setGenState s g _ _ (by simp [h])).trans (genOrder _ g _)).trans (startSup _ g _)

theorem enterCranking (s : State) (g : Fin 8) (n : Nat) (h : (s.gen g).state.onLine = false) :
    s.Spares (s.enterCranking g n) :=
  (((setGenState s g _ _ (by simp [h])).trans (modGen _ g _)).trans (genOrder _ g _)).trans (startSup _ g _)

/-- An unnamed start request takes a set in HOT or STANDBY (R82). -/
theorem startRequest (s : State) : s.Spares (s.startRequest none false) := by
  have found (p : Fin 8 → Bool) (x : GenState) (g : Fin 8) (h : s.lowestRank p x = some g) :
      (s.gen g).state = x := by
    have := (List.mem_filter.mp (leastBy_mem _ _ _ h)).2
    simp only [Bool.and_eq_true, beq_iff_eq] at this
    exact this.1.2
  refine .ite (fun _ => refl s) fun _ => .ite (fun _ => refl s) fun _ => ?_
  split
  next => exact refl s
  next g chosen =>
    have offLine : (s.gen g).state.onLine = false := by
      simp only [State.startChoice, State.chooseStart] at chosen
      split at chosen
      next k hot => cases chosen; rw [found _ _ _ hot]; rfl
      next => rw [found _ _ _ chosen]; rfl
    exact .ite (fun _ => enterSyncing s g false offLine) fun _ => enterCranking s g _ offLine

theorem stopSet (s : State) (g : Fin 8) : s.Spares (s.stopSet g) :=
  .ite (fun _ => ((setGenState s g _ _ fun _ => rfl).trans (genOrder _ g _)).trans (startSup _ g _))
    fun _ => refl s

theorem forEach {ι : Type} (f : ι → State → State) (h : ∀ i s, State.Spares s (f i s)) (is : List ι)
    (s : State) : s.Spares (forEach is f s) := by
  unfold Machine.forEach
  induction is generalizing s with
  | nil => exact refl s
  | cons i is ih => exact (h i s).trans (ih (f i s))

theorem roundComplete (s : State) (m : Int) : s.Spares (s.roundComplete m) := by
  refine forEach _ (fun g t => .ite (fun _ => refl t) fun _ => ?_) gensets s
  have returns : t.Spares (t.setGenState g .online false) := setGenState t g _ _ fun _ => rfl
  split
  · exact .ite (fun _ => returns.trans (genOrder _ g _)) fun _ => refl t
  · exact returns
  · exact refl t

/-! ### The shedding unit -/

theorem takeFeeder (s : State) (i : Fin 32) (reason : ShedReason) : s.Spares (s.takeFeeder i reason) := by
  have modFdr (t : State) (f : FdrJob → FdrJob) : t.Spares (t.modFdr i f) :=
    ⟨rfl, rfl, rfl, fun _ => rfl, id⟩
  have order (t : State) : t.Spares (t.fdrOrder i .open .urgent) :=
    (modFdr t _).trans (placeFor _ (fun _ => UnitRef.noConfusion) _ _ _ _)
  have confirm (t : State) : t.Spares (t.startConfirm i) := modFdr t _
  have taken := ((modFdr s _).trans (order (s.setFdrState i .shedPending))).trans (confirm _)
  exact taken.trans ⟨rfl, rfl, rfl, fun _ => rfl, id⟩

theorem endWalk (s : State) (reason : ShedReason) (short took : Bool) :
    s.Spares (s.endWalk reason short took) :=
  (State.Spares.ite (fun _ => raise s _) fun _ => refl s).trans
    (.ite (fun _ => raise _ _) fun _ => refl _)

theorem walk (q : Int) (reason : ShedReason) (is : List (Fin 32)) (sum : Int) (took : Bool) (s : State) :
    s.Spares (walk q reason is sum took s) := by
  induction is generalizing sum took s with
  | nil => exact endWalk s reason _ took
  | cons i is ih =>
    exact .ite (fun _ => endWalk s reason _ took) fun _ =>
      .ite (fun _ => (takeFeeder s i reason).trans (ih _ _ _)) fun _ => ih _ _ _

theorem reducedDemand (s : State) (q : Int) (reason : ShedReason) :
    s.Spares (s.reducedDemand q reason) :=
  .ite (fun _ => refl s) fun _ => walk _ reason _ _ _ s

end State.Spares

/-! ## The handing on of a round -/

/-- The requests of a round to the set sequencer and to the shedding unit (R61). -/
def State.serveRound (s : State) (f : Figures) : State :=
  let s := s.roundComplete f.m
  let s := if f.startPassed then s.startRequest none false else s
  let s := match f.stopRequest with
    | none => s
    | some k => s.stopSet k
  match f.deficit with
  | none => s
  | some q => s.reducedDemand q .deficit

theorem State.handRound_eq (s : State) :
    s.handRound = ((s.allocate s.bal.fig.xCmd s.bal.fig.a).serveRound s.bal.fig).drain := rfl

theorem State.serveRound_spares (s : State) (f : Figures) : s.Spares (s.serveRound f) := by
  have stops (t : State) (k : Option (Fin 8)) :
      t.Spares (match k with | none => t | some k => t.stopSet k) := by
    cases k with
    | none => exact .refl t
    | some k => exact .stopSet t k
  have demands (t : State) (q : Option Int) :
      t.Spares (match q with | none => t | some q => t.reducedDemand q .deficit) := by
    cases q with
    | none => exact .refl t
    | some q => exact .reducedDemand t q .deficit
  have starts (t : State) : t.Spares (if f.startPassed then t.startRequest none false else t) :=
    .ite (fun _ => .startRequest t) fun _ => .refl t
  exact (((Spares.roundComplete s f.m).trans (starts _)).trans (stops _ _)).trans (demands _ _)

/-- On a live island a change that takes no set off the line starts the capacity hold at most (R151). -/
theorem State.onGenChange_of_live (s : State) (c : GenChange) (live : s.bs.island.live = true)
    (h : c.old.onLine = true → c.new.onLine = true) :
    s.onGenChange c = s ∨
      ∃ hold, s.onGenChange c = s.modBs fun x => { x with capacityHold := hold } := by
  have stays : (c.old.onLine && !c.new.onLine) = false := by
    cases old : c.old.onLine with
    | false => rfl
    | true => simp [h old]
  unfold State.onGenChange
  split
  case isTrue => exact .inl rfl
  case isFalse =>
    rcases s.bs.island.live_iff.mp live with island | island | island
    · exact .inl (by simp [island, stays])
    · by_cases online : c.new = .online
      · exact .inr ⟨s.timer (2 * s.act.roundPeriod), by simp [island, online, GenState.onLine]⟩
      · exact .inl (by simp [island, stays, online])
    · exact .inl (by simp [island, stays])

/-- The handing on of such changes leaves the allocator and the order slots. -/
theorem State.drain_of_live (s : State) (live : s.bs.island.live = true) (h : s.KeepsSources) :
    s.drain.cur = s.cur ∧ ∀ b, s.drain.pvSlot b = s.pvSlot b := by
  have fuelled (n : Nat) : ∀ t : State, t.bs.island.live = true → t.KeepsSources →
      (drainFuel n t).cur = t.cur ∧ ∀ b, (drainFuel n t).pvSlot b = t.pvSlot b := by
    induction n with
    | zero => exact fun t _ _ => ⟨rfl, fun _ => rfl⟩
    | succ n ih =>
      intro t live keeps
      unfold drainFuel
      split
      next => exact ⟨rfl, fun _ => rfl⟩
      next c cs waiting =>
        rw [State.KeepsSources, waiting] at keeps
        obtain ⟨first, later⟩ := List.forall_mem_cons.mp keeps
        obtain noted | ⟨hold, noted⟩ := State.onGenChange_of_live
          { t with seq := { t.seq with changes := cs } } c live first
        · rw [noted]
          exact ih _ live later
        · rw [noted]
          exact ih _ live later
  exact fuelled 512 s live h

end Sys2Proof.Machine
end

section
/-! SUPPORT. The walk of the ranks (R68, R69): what each rank is left with, and the sum of the allotments. -/

namespace Sys2Proof.Machine

/-! ## Sums over a set of units -/

theorem sumOver_congr {ι : Type} (is : List ι) (p : ι → Bool) {f g : ι → Nat}
    (h : ∀ i, p i = true → f i = g i) : sumOver is p f = sumOver is p g := by
  unfold sumOver
  rw [List.map_congr_left fun i hi => h i (List.mem_filter.mp hi).2]

/-- A sum by the classes of a rank of at most 3. -/
theorem sumOver_by_rank {ι : Type} (is : List ι) (p : ι → Bool) (rank : ι → Nat) (f : ι → Nat)
    (h : ∀ i, rank i ≤ 3) :
    sumOver is p f = sumOver is (fun i => p i && rank i == 0) f + sumOver is (fun i => p i && rank i == 1) f +
      sumOver is (fun i => p i && rank i == 2) f + sumOver is (fun i => p i && rank i == 3) f := by
  simp only [sumOver_eq_sum_ite]
  induction is with
  | nil => rfl
  | cons i is ih =>
    have one : (if p i = true then f i else 0) =
        (if (p i && rank i == 0) = true then f i else 0) + (if (p i && rank i == 1) = true then f i else 0) +
        (if (p i && rank i == 2) = true then f i else 0) +
          (if (p i && rank i == 3) = true then f i else 0) := by
      have := h i
      cases p i with
      | false => rfl
      | true => interval_cases rank i <;> simp
    simp only [List.map_cons, List.sum_cons, ih, one]
    omega

/-- Rounding down part by part gives no more than rounding the whole. -/
theorem sumOver_div_le {ι : Type} (is : List ι) (p : ι → Bool) (f : ι → Nat) (c n : Nat) :
    sumOver is p (fun i => f i * c / n) ≤ sumOver is p f * c / n := by
  unfold sumOver
  induction is.filter p with
  | nil => simp
  | cons i is ih =>
    simp only [List.map_cons, List.sum_cons, Nat.add_mul]
    exact (Nat.add_le_add_left ih _).trans Nat.div_add_div_le_add_div

/-! ## The fraction of a rank -/

theorem rankRest_eq (a k : Nat) : rankRest a k = k - a := by
  unfold rankRest
  split <;> omega

theorem rankFraction_eq (a k : Nat) :
    rankFraction a k =
      if a = 0 ∨ k = 0 then 1000 else if a ≤ k then 0 else 1000 * (a - k) / a := by
  unfold rankFraction
  by_cases ha : a = 0
  · simp [ha]
  · simp [ha]

/-- A rank is allotted at most what its curtailment leaves of it. -/
theorem rankFraction_allots (a k : Nat) : a * rankFraction a k / 1000 ≤ a - k := by
  rw [rankFraction_eq]
  split
  next free => rw [Nat.mul_div_cancel a (by decide)]; omega
  next =>
    split
    next => simp
    next =>
      rw [Nat.div_le_iff_le_mul (by decide)]
      calc a * (1000 * (a - k) / a) ≤ 1000 * (a - k) := Nat.mul_div_le _ _
        _ ≤ (a - k) * 1000 + (1000 - 1) := by omega

theorem Fractions.at_min (f : Fractions) (rank : Nat) : f.at (min 3 rank) = f.at rank := by
  by_cases h : rank ≤ 3
  · rw [Nat.min_eq_right h]
  · rw [Nat.min_eq_left (by omega)]
    have : rank ≠ 0 ∧ rank ≠ 1 ∧ rank ≠ 2 := by omega
    simp [Fractions.at, this]

/-- `left` is what the walk of an allocation of X_cmd out of A still has to curtail at each rank (R68). -/
structure State.WalkLeaves (s : State) (xCmd a : Int) (left : Nat → Nat) : Prop where
  rank3 : left 3 = (a - xCmd).toNat
  rank2 : left 2 = left 3 - s.rankAvail 3
  rank1 : left 1 = left 2 - s.rankAvail 2
  rank0 : left 0 = left 1 - s.rankAvail 1

theorem State.rankFractions_at (s : State) (xCmd a : Int) (left : Nat → Nat)
    (walks : s.WalkLeaves xCmd a left) (r : Nat) (hr : r ≤ 3) :
    (s.rankFractions xCmd a).at r = rankFraction (s.rankAvail r) (left r) := by
  simp only [rankFractions, walkRanks, rankRest_eq, ← walks.rank3, ← walks.rank2, ← walks.rank1,
    ← walks.rank0]
  interval_cases r <;> rfl

/-! ## The allotment sum (R69) -/

theorem State.sumA_by_rank (s : State) :
    s.sumA = s.rankAvail 0 + s.rankAvail 1 + s.rankAvail 2 + s.rankAvail 3 :=
  sumOver_by_rank pvBlocks s.inScmd (fun b => min 3 (s.pvCfg b).rank) s.pvAvail fun _ => Nat.min_le_left _ _

/-- The members of a rank together are allotted at most the rank's available by its fraction. -/
theorem State.rank_allotment_le (s : State) (f : Fractions) (r : Nat) :
    sumOver pvBlocks (fun b => s.inScmd b && min 3 (s.pvCfg b).rank == r) (s.allotmentOf f) ≤
      s.rankAvail r * f.at r / 1000 := by
  refine le_of_eq_of_le (sumOver_congr _ _ fun b member => ?_) (sumOver_div_le _ _ _ (f.at r) 1000)
  obtain ⟨-, rank⟩ := Bool.and_eq_true_iff.mp member
  rw [State.allotmentOf, ← Fractions.at_min, beq_iff_eq.mp rank]

/-- The allotments sum to at most what the curtailment leaves of A. -/
theorem State.allotmentSum_le (s : State) (xCmd a : Int) (left : Nat → Nat)
    (walks : s.WalkLeaves xCmd a left) :
    s.allotmentSum (s.rankFractions xCmd a) ≤ s.sumA - (a - xCmd).toNat := by
  have rank (r : Nat) (hr : r ≤ 3) :
      sumOver pvBlocks (fun b => s.inScmd b && min 3 (s.pvCfg b).rank == r)
        (s.allotmentOf (s.rankFractions xCmd a)) ≤ s.rankAvail r - left r := by
    refine (s.rank_allotment_le _ r).trans ?_
    rw [s.rankFractions_at xCmd a left walks r hr]
    exact rankFraction_allots _ _
  have ranks := sumOver_by_rank pvBlocks s.inScmd (fun b => min 3 (s.pvCfg b).rank)
    (s.allotmentOf (s.rankFractions xCmd a)) fun _ => Nat.min_le_left _ _
  have r3 := rank 3 le_rfl
  have r2 := rank 2 (by decide)
  have r1 := rank 1 (by decide)
  have r0 := rank 0 (by decide)
  obtain ⟨h3, h2, h1, h0⟩ := walks
  rw [State.allotmentSum, ranks, s.sumA_by_rank, ← h3]
  omega

end Sys2Proof.Machine
end

section
/-! SUPPORT. An allocation block by block (R69, R70, R73, R74): the allotment, the standing cap, the slot. -/

namespace Sys2Proof.Machine

/-! ## One block -/

/-- What an allocation reads and writes of one block: its job, the slot of its station, and what no job changes. -/
def State.pvView (s : State) (b : Fin 16) : PvJob × Option OrderSlot × Kept := (s.pv b, s.pvSlot b, s.kept)

theorem State.pvView_eq_iff {s t : State} {b : Fin 16} :
    t.pvView b = s.pvView b ↔ t.pv b = s.pv b ∧ t.pvSlot b = s.pvSlot b ∧ t.kept = s.kept := by
  simp [State.pvView]

theorem State.modPv_pvView_other (s : State) {b c : Fin 16} (f : PvJob → PvJob) (h : c ≠ b) :
    (s.modPv c f).pvView b = s.pvView b :=
  pvView_eq_iff.mpr ⟨s.modPv_pv_other c b f h.symm, rfl, rfl⟩

theorem State.placeFor_pv (s : State) (u : UnitRef) (code : OrderCode) (tag : Byte) (cap : Nat)
    (cls : OrderClass) (b : Fin 16) : (s.placeFor u code tag cap cls).pv b = s.pv b :=
  congrArg (fun x => x.jobs[b]) (s.placeFor_cur u code tag cap cls)

theorem State.pvOrder_pvView_other (s : State) {b c : Fin 16} (code : OrderCode) (cap : Option Nat)
    (cls : OrderClass) (h : c ≠ b) : (s.pvOrder c code cap cls).pvView b = s.pvView b := by
  have other : UnitRef.pv c ≠ .pv b := fun e => h (UnitRef.pv.inj e)
  refine pvView_eq_iff.mpr ⟨?_, State.placeFor_pvSlot_other _ _ _ _ _ other, s.pvOrder_kept _ _ _ _⟩
  exact (State.placeFor_pv _ _ _ _ _ _ b).trans (s.modPv_pv_other c b _ h.symm)

/-- A block's job with a new standing order, sent at `now` (R74). -/
def PvJob.ordered (j : PvJob) (code : OrderCode) (cap : Option Nat) (cls : OrderClass) (now : Nat) : PvJob :=
  { j with
    order := code, cap := cap, tag := j.tag + 1, sendCount := 1, lastSend := some now, taken := false
    unanswered := false, cls := cls }

/-- A block's job with the allotment that an allocation records (R69). -/
def PvJob.allotted (j : PvJob) (x : Option Nat) : PvJob := { j with allotment := x }

@[simp] theorem PvJob.ordered_tag (j : PvJob) (code : OrderCode) (cap : Option Nat) (cls : OrderClass)
    (now : Nat) : (j.ordered code cap cls now).tag = j.tag + 1 := rfl

@[simp] theorem PvJob.allotted_tag (j : PvJob) (x : Option Nat) : (j.allotted x).tag = j.tag := rfl

@[simp] theorem PvJob.allotted_cap (j : PvJob) (x : Option Nat) : (j.allotted x).cap = j.cap := rfl

theorem State.pvOrder_pv (s : State) (b : Fin 16) (code : OrderCode) (cap : Option Nat) (cls : OrderClass) :
    (s.pvOrder b code cap cls).pv b = (s.pv b).ordered code cap cls s.clock :=
  (State.placeFor_pv _ _ _ _ _ _ b).trans (s.modPv_pv b _)

theorem State.pvOrder_places (s : State) (b : Fin 16) (code : OrderCode) (cap : Option Nat) (cls : OrderClass) :
    s.Places (s.pvOrder b code cap cls) (.pv b) code ((s.pv b).tag + 1) (cap.getD 0) cls :=
  State.placeFor_places (s.modPv b _) (.pv b) code _ _ cls

theorem State.pvSlot_of_kept_station {s t : State} {b : Fin 16} {a : Addr} (kept : t.kept = s.kept)
    (station : s.act.stationOf (.pv b) = some a) : t.pvSlot b = t.slot a := by
  have act : t.act = s.act := congrArg (·.bank.active) kept
  exact pvSlot_of_station (act ▸ station)

/-- An order placed is seen alike from states that agree on the slot and on what no job changes. -/
theorem State.Places.congr {s s' t t' : State} {b : Fin 16} {code : OrderCode} {tag : Byte} {cap : Nat}
    {cls : OrderClass} (h : s.Places t (.pv b) code tag cap cls) (hs : s'.pvSlot b = s.pvSlot b)
    (ht : t'.pvSlot b = t.pvSlot b) (ks : s'.kept = s.kept) (k : t.kept = s.kept) (k' : t'.kept = s.kept) :
    s'.Places t' (.pv b) code tag cap cls := by
  have act : s'.act = s.act := congrArg (·.bank.active) ks
  have marks : s'.newMarks = s.newMarks := by
    have e : s'.loop.portE.isDown = s.loop.portE.isDown := congrArg (·.portE.cond == .down) ks
    have w : s'.loop.portW.isDown = s.loop.portW.isDown := congrArg (·.portW.cond == .down) ks
    unfold State.newMarks
    rw [e, w]
  intro a station
  rw [act] at station
  rw [pvSlot_of_kept_station ks station, pvSlot_of_station station] at hs
  rw [pvSlot_of_kept_station k station, pvSlot_of_kept_station k' station] at ht
  rw [hs, ht, act, marks]
  exact h a station

/-! ## The allotments (R69, R73) -/

theorem mem_pvBlocks (b : Fin 16) : b ∈ pvBlocks := List.mem_finRange b

theorem pvBlocks_nodup : pvBlocks.Nodup := List.nodup_finRange 16

/-- A block's allotment: a member of S_cmd has one, another block none. -/
def State.blockAllotment (s : State) (f : Fractions) (b : Fin 16) : Option Nat :=
  if s.inScmd b then some (s.allotmentOf f b) else none

/-- The fractions and the sums are no block's. -/
theorem State.record_pvView (s : State) (fractions : Vector Nat 4) (sum u : Int) (b : Fin 16) :
    State.pvView { s with cur := { s.cur with fractions := fractions, sum := sum, u := u } } b =
      s.pvView b := rfl

/-- The visit of an allocation to block `b` that records its allotment. -/
def State.recordVisit (s : State) (f : Fractions) (b : Fin 16) (t : State) : State :=
  t.modPv b (·.allotted (s.blockAllotment f b))

theorem State.recordAllocation_pvView (s : State) (f : Fractions) (a : Int) (b : Fin 16) :
    (s.recordAllocation f a).pvView b =
      ((s.pv b).allotted (s.blockAllotment f b), s.pvSlot b, s.kept) := by
  have jobs : (s.recordAllocation f a).pvView b = (forEach pvBlocks (s.recordVisit f) s).pvView b :=
    State.record_pvView _ _ _ _ b
  obtain ⟨x, before, visit⟩ := forEach_at (State.pvView · b) (s.recordVisit f) b
    (fun c t hc => t.modPv_pvView_other _ hc) pvBlocks pvBlocks_nodup (mem_pvBlocks b) s
  obtain ⟨job, slot, kept⟩ := State.pvView_eq_iff.mp before
  rw [jobs, visit, ← job, ← slot, ← kept]
  exact congrArg (·, x.pvSlot b, x.kept) (x.modPv_pv b _)

/-- The sum of the record is that of the allotments. -/
theorem State.allotmentSum_eq (s : State) (f : Fractions) :
    (s.allotmentSum f : Int) = (pvBlocks.map fun b => ((s.blockAllotment f b).getD 0 : Int)).sum := by
  rw [State.allotmentSum, sumOver_eq_sum_ite, Nat.cast_list_sum, List.map_map]
  congr 2
  funext b
  simp only [State.blockAllotment, Function.comp_apply]
  split <;> rfl

/-- The visit of an allocation to block `b` that judges its cap. -/
def State.capVisit (s : State) (f : Fractions) (b : Fin 16) (t : State) : State :=
  if s.inScmd b then t.applyTarget f b else t

theorem State.allocate_eq (s : State) (xCmd a : Int) :
    let f := s.rankFractions xCmd a
    s.allocate xCmd a =
      if s.mode.mode = .commissioning then s.recordAllocation f a
      else forEach pvBlocks (s.capVisit f) (s.recordAllocation f a) :=
  if_congr beq_iff_eq rfl rfl

/-- What is recorded of an allocation (R69, R73). -/
theorem State.allocate_allocation (s : State) (xCmd a : Int) :
    let f := s.rankFractions xCmd a
    (s.allocate xCmd a).allocation =
      (#v[f.f0, f.f1, f.f2, f.f3], (s.allotmentSum f : Int), a - s.allotmentSum f, s.blockAllotment f) := by
  intro f
  have caps (t : State) : (forEach pvBlocks (s.capVisit f) t).allocation = t.allocation :=
    forEach_keeps State.allocation _ pvBlocks (fun b _ x => by
      simp only [State.capVisit, State.applyTarget, apply_ite State.allocation, pvOrder_allocation,
        ite_self]) t
  have jobs : (fun b => ((s.recordAllocation f a).pv b).allotment) = s.blockAllotment f :=
    funext fun b => congrArg (·.1.allotment) (s.recordAllocation_pvView f a b)
  rw [State.allocate_eq, apply_ite State.allocation, caps, ite_self, State.allocation, jobs]
  rfl

/-! ## The standing caps (R70, R72) -/

theorem takesTarget_iff (cap : Option Nat) (target rating deadband : Nat) :
    takesTarget cap target rating deadband = true ↔
      ∀ c ∈ cap, target < c ∨ (c < target ∧ (target = rating ∨ c + deadband ≤ target)) := by
  cases cap with
  | none => simp [takesTarget]
  | some c =>
    simp only [takesTarget, Option.mem_some_iff, forall_eq']
    split
    next below => simp [below]
    next =>
      split
      next above => simp [above, above.not_gt]
      next notAbove => simp_all

theorem State.targetOf_of_kept (s t : State) (h : s.kept = t.kept) (f : Fractions) (b : Fin 16) :
    s.targetOf f b = t.targetOf f b := by
  have cfg : s.pvCfg b = t.pvCfg b := congrArg (·.bank.active.pv[b]) h
  have record : s.pvRec b = t.pvRec b := congrArg (·.pic.pv[b]) h
  simp only [State.targetOf, State.allotmentOf, State.pvAvail, cfg, record]

/-- R70 has the target of block `b` placed as its standing cap; in COMMISSIONING nothing is placed (R72). -/
abbrev State.TakesCap (s : State) (f : Fractions) (b : Fin 16) : Prop :=
  s.inScmd b = true ∧ s.mode.mode ≠ .commissioning ∧
    takesTarget (s.pv b).cap (s.targetOf f b) (s.pvCfg b).rating s.act.capDeadband = true

theorem State.capVisit_pvView_other (s : State) (f : Fractions) {b c : Fin 16} (t : State) (h : c ≠ b) :
    (s.capVisit f c t).pvView b = t.pvView b := by
  simp only [State.capVisit, State.applyTarget, apply_ite (State.pvView · b),
    t.pvOrder_pvView_other _ _ _ h, ite_self]

/-- The visit to a block whose allotment has been recorded gives it a new cap, or leaves all as it is. -/
theorem State.capVisit_eq (s : State) (f : Fractions) (b : Fin 16) (t : State) (al : Option Nat)
    (mode : s.mode.mode ≠ .commissioning) (job : t.pv b = (s.pv b).allotted al) (kept : t.kept = s.kept) :
    s.capVisit f b t =
      if s.TakesCap f b then t.pvOrder b .cap (some (s.targetOf f b)) .routine else t := by
  have act : t.act = s.act := congrArg (·.bank.active) kept
  have cfg : t.pvCfg b = s.pvCfg b := congrArg (·.pv[b]) act
  simp only [State.capVisit, State.applyTarget, t.targetOf_of_kept s kept, job, cfg, act, PvJob.allotted_cap]
  simp [mode, ite_and]

/-- What an allocation makes of one block (R70, R72, R74). -/
theorem State.allocate_block (s : State) (xCmd a : Int) (b : Fin 16) :
    let f := s.rankFractions xCmd a
    let t := s.allocate xCmd a
    let job := (s.pv b).allotted (s.blockAllotment f b)
    (s.TakesCap f b →
      t.pv b = job.ordered .cap (some (s.targetOf f b)) .routine s.clock ∧
      s.Places t (.pv b) .cap ((s.pv b).tag + 1) (s.targetOf f b) .routine) ∧
    (¬ s.TakesCap f b → t.pv b = job ∧ t.pvSlot b = s.pvSlot b) := by
  intro f t job
  have recorded := s.recordAllocation_pvView f a b
  by_cases mode : s.mode.mode = .commissioning
  case pos =>
    have onlyRecorded : t = s.recordAllocation f a := (s.allocate_eq xCmd a).trans (if_pos mode)
    rw [onlyRecorded]
    exact ⟨fun takes => absurd mode takes.2.1, fun _ =>
      ⟨congrArg (·.1) recorded, congrArg (·.2.1) recorded⟩⟩
  case neg =>
    have walked : t = forEach pvBlocks (s.capVisit f) (s.recordAllocation f a) :=
      (s.allocate_eq xCmd a).trans (if_neg mode)
    obtain ⟨x, before, visit⟩ := forEach_at (State.pvView · b) (s.capVisit f) b
      (fun c t hc => s.capVisit_pvView_other f t hc) pvBlocks pvBlocks_nodup (mem_pvBlocks b)
      (s.recordAllocation f a)
    have jobX : x.pv b = job := congrArg (·.1) (before.trans recorded)
    have slotX : x.pvSlot b = s.pvSlot b := congrArg (·.2.1) (before.trans recorded)
    have keptX : x.kept = s.kept := congrArg (·.2.2) (before.trans recorded)
    rw [← walked, s.capVisit_eq f b x _ mode jobX keptX] at visit
    by_cases takes : s.TakesCap f b
    · rw [if_pos takes] at visit
      obtain ⟨jobT, slotT, keptT⟩ := State.pvView_eq_iff.mp visit
      have clock : x.clock = s.clock := congrArg (·.clock) keptX
      have kept := x.pvOrder_kept b .cap (some (s.targetOf f b)) .routine
      have placed := x.pvOrder_places b .cap (some (s.targetOf f b)) .routine
      rw [jobX] at placed
      refine ⟨fun _ => ⟨?_, ?_⟩, absurd takes⟩
      · rw [jobT, x.pvOrder_pv, jobX, clock]
      · exact placed.congr slotX.symm slotT keptX.symm kept (keptT.trans kept)
    · rw [if_neg takes] at visit
      obtain ⟨jobT, slotT, -⟩ := State.pvView_eq_iff.mp visit
      exact ⟨fun h => absurd h takes, fun _ => ⟨jobT.trans jobX, slotT.trans slotX⟩⟩

end Sys2Proof.Machine
end

section
/-! SUPPORT. The allocation of a computed round (R61, R68 to R70) in the state that the round leaves. -/

namespace Sys2Proof.Machine

/-- X_cmd is at most A, and not negative over a ramp base that is not (R49, R50). -/
theorem State.roundFigures_xCmd (s : State) (sound : s.RampBaseSound) :
    0 ≤ s.roundFigures.xCmd ∧ s.roundFigures.xCmd ≤ s.roundFigures.a ∧ s.roundFigures.a = s.sumA := by
  have sound : 0 ≤ s.bal.rampBase := sound
  exact ⟨le_min (le_min (Int.natCast_nonneg _) (le_max_left _ _)) (by omega),
    (min_le_left _ _).trans (min_le_left _ _), rfl⟩

/-- The state that a computed round hands its results on from. -/
def State.worked (s : State) : State :=
  { s with bal := { s.roundBalance with roundTimer := s.timer s.act.roundPeriod } }

theorem exec_roundTimerExpiry_worked (s u : State) (d : Nat) (runs : s.bal.roundTimer = some d)
    (boundary : u = (s.at d).commitBoundary) (live : u.bs.island.live = true) :
    exec .roundTimerExpiry s = .next u.worked.handRound := by
  have computed : s.roundExpiry = u.worked.handRound := by
    rw [State.roundExpiry, runs, State.expire_some, ← boundary, State.round]
    exact if_pos live
  exact congrArg _ computed

/-- The allocation of a computed round. -/
def State.allocated (s : State) : State := s.worked.allocate s.roundFigures.xCmd s.roundFigures.a

/-- The fractions of a computed round. -/
def State.roundFractions (s : State) : Fractions :=
  s.rankFractions s.roundFigures.xCmd s.roundFigures.a

theorem State.allocated_kept (s : State) : s.allocated.kept = s.kept := s.worked.allocate_kept _ _

theorem State.worked_handRound_kept (s : State) : s.worked.handRound.kept = s.kept :=
  ((State.drain_kept _).trans (s.allocated.serveRound_spares _).kept).trans s.allocated_kept

/-- What is recorded of the allocation of a computed round is not touched by what the round brings about after
it, a blackout included. -/
theorem State.worked_handRound_allocation (s : State) :
    let f := s.roundFractions
    s.worked.handRound.allocation =
      (#v[f.f0, f.f1, f.f2, f.f3], (s.allotmentSum f : Int), s.roundFigures.a - s.allotmentSum f,
        s.blockAllotment f) :=
  calc s.worked.handRound.allocation
      = (s.allocated.serveRound s.worked.bal.fig).allocation := controlKeeps_allocation.drain _
    _ = s.allocated.allocation := State.allocation_of_cur (s.allocated.serveRound_spares _).cur
    _ = _ := s.worked.allocate_allocation _ _

/-- With no change waiting, what the round brings about after the allocation leaves the allocator and the slots
of its stations. -/
theorem State.worked_handRound_of_handedOn (s : State) (live : s.bs.island.live = true)
    (handed : s.HandedOn) :
    (∀ b, s.worked.handRound.pv b = s.allocated.pv b) ∧
      ∀ b, s.worked.handRound.pvSlot b = s.allocated.pvSlot b := by
  have outside : s.allocated.outsideCurtail = s.outsideCurtail := s.worked.allocate_outsideCurtail _ _
  have keeps : s.allocated.KeepsSources := by
    have seq : s.allocated.seq = s.seq := congrArg (·.1) outside
    rw [State.KeepsSources, seq, handed]
    exact List.forall_mem_nil _
  have bs : s.allocated.bs = s.bs := congrArg (·.2.2) outside
  have served := s.allocated.serveRound_spares s.worked.bal.fig
  obtain ⟨cur, slots⟩ := (s.allocated.serveRound s.worked.bal.fig).drain_of_live
    (by rw [served.bs, bs]; exact live) (served.sources keeps)
  exact ⟨fun b => congrArg (·.jobs[b]) (cur.trans served.cur),
    fun b => (slots b).trans (served.slots b)⟩

/-- What the round's allocation makes of one block. -/
theorem State.allocated_block (s : State) (b : Fin 16) :
    let f := s.roundFractions
    let t := s.allocated
    let job := (s.pv b).allotted (s.blockAllotment f b)
    (s.TakesCap f b →
      t.pv b = job.ordered .cap (some (s.targetOf f b)) .routine s.clock ∧
      s.Places t (.pv b) .cap ((s.pv b).tag + 1) (s.targetOf f b) .routine) ∧
    (¬ s.TakesCap f b → t.pv b = job ∧ t.pvSlot b = s.pvSlot b) :=
  s.worked.allocate_block _ _ b

/-- A cap is taken as R70 and R72 have it. -/
theorem State.takesCap_iff (s : State) (f : Fractions) (b : Fin 16) :
    s.TakesCap f b ↔ s.inScmd b = true ∧ s.mode.mode ≠ .commissioning ∧
      ∀ c ∈ (s.pv b).cap, s.targetOf f b < c ∨
        (c < s.targetOf f b ∧
          (s.targetOf f b = (s.pvCfg b).rating ∨ c + s.act.capDeadband ≤ s.targetOf f b)) := by
  rw [State.TakesCap, takesTarget_iff]

/-- The target of a member of S_cmd, read off its allotment. -/
theorem State.targetOf_eq (s : State) (f : Fractions) (b : Fin 16) (member : s.inScmd b = true) :
    s.targetOf f b =
      if f.at (s.pvCfg b).rank < 1000 then (s.blockAllotment f b).getD 0 else (s.pvCfg b).rating := by
  simp [State.targetOf, State.blockAllotment, member]

/-- What a round makes of one block's job, the target of a member read off its allotment (R69, R70, R72). -/
theorem State.worked_handRound_job (s : State) (live : s.bs.island.live = true) (handed : s.HandedOn)
    (b : Fin 16) (al : Option Nat) (target : Nat) (hAl : al = s.blockAllotment s.roundFractions b)
    (hTarget : target =
      if s.roundFractions.at (s.pvCfg b).rank < 1000 then al.getD 0 else (s.pvCfg b).rating) :
    s.worked.handRound.pv b =
      if s.inScmd b = true ∧ s.mode.mode ≠ .commissioning ∧
          ∀ c ∈ (s.pv b).cap, target < c ∨
            (c < target ∧ (target = (s.pvCfg b).rating ∨ c + s.act.capDeadband ≤ target)) then
        ((s.pv b).allotted al).ordered .cap (some target) .routine s.clock
      else (s.pv b).allotted al := by
  subst hAl
  rw [(s.worked_handRound_of_handedOn live handed).1]
  obtain ⟨ordered, unchanged⟩ := s.allocated_block b
  have isTarget (member : s.inScmd b = true) : s.targetOf s.roundFractions b = target :=
    (s.targetOf_eq _ b member).trans hTarget.symm
  split
  next takes =>
    rw [← isTarget takes.1] at takes ⊢
    exact (ordered ((s.takesCap_iff _ b).mpr takes)).1
  next keeps =>
    refine (unchanged fun takes => keeps ?_).1
    rw [← isTarget takes.1]
    exact (s.takesCap_iff _ b).mp takes

/-- What a round leaves in the slot of a block's station, told from the block's tag (R70, R74). -/
theorem State.worked_handRound_slot (s : State) (live : s.bs.island.live = true) (handed : s.HandedOn)
    (b : Fin 16) :
    let t := s.worked.handRound
    if (t.pv b).tag = (s.pv b).tag then ∀ a, s.act.stationOf (.pv b) = some a → t.slot a = s.slot a
    else ∃ c, (t.pv b).cap = some c ∧ s.Places t (.pv b) .cap (t.pv b).tag c .routine := by
  intro t
  obtain ⟨jobs, slots⟩ := s.worked_handRound_of_handedOn live handed
  have kept : t.kept = s.kept := s.worked_handRound_kept
  obtain ⟨ordered, unchanged⟩ := s.allocated_block b
  rw [jobs]
  by_cases takes : s.TakesCap s.roundFractions b
  case pos =>
    obtain ⟨job, placed⟩ := ordered takes
    have newTag : (s.pv b).tag + 1 ≠ (s.pv b).tag := by bv_omega
    rw [job, PvJob.ordered_tag, PvJob.allotted_tag, if_neg newTag]
    exact ⟨_, rfl, placed.congr rfl (slots b) rfl s.allocated_kept kept⟩
  case neg =>
    obtain ⟨job, slot⟩ := unchanged takes
    rw [job, PvJob.allotted_tag, if_pos rfl]
    intro a station
    rw [← State.pvSlot_of_station station, ← State.pvSlot_of_kept_station kept station]
    exact (slots b).trans slot

/-- The allotments of a round sum to at most X_cmd. -/
theorem State.roundAllotments_le (s : State) (sound : s.RampBaseSound) (left : Nat → Nat)
    (walks : s.WalkLeaves s.roundFigures.xCmd s.roundFigures.a left) :
    (s.allotmentSum s.roundFractions : Int) ≤ s.roundFigures.xCmd := by
  obtain ⟨nonneg, le, a⟩ := s.roundFigures_xCmd sound
  have sum : s.allotmentSum s.roundFractions ≤ s.sumA - (s.roundFigures.a - s.roundFigures.xCmd).toNat :=
    s.allotmentSum_le _ _ left walks
  omega

/-- Settles O22: what is recorded holds from every state; the caps and the slots are those of the allocation,
since with nothing waiting to be handed on the rest of the round touches neither. -/
theorem allotmentsStayWithinTheTarget : Obligations.AllotmentsStayWithinTheTarget := by
  unfold Obligations.AllotmentsStayWithinTheTarget
  intro s u d avail left frac runs boundary live sound hAvail hTop hNext hFrac
  obtain rfl : avail = u.rankAvail := funext hAvail
  have walks : u.WalkLeaves u.roundFigures.xCmd u.roundFigures.a left :=
    ⟨hTop, hNext 2 (by decide), hNext 1 (by decide), hNext 0 (by decide)⟩
  have fractions (r : Nat) (hr : r ≤ 3) : u.roundFractions.at r = frac r := by
    rw [hFrac r hr, ← rankFraction_eq]
    exact u.rankFractions_at _ _ left walks r hr
  have blockFraction (b : Fin 16) :
      u.roundFractions.at (u.pvCfg b).rank = frac (min 3 (u.pvCfg b).rank) :=
    (Fractions.at_min _ _).symm.trans (fractions _ (Nat.min_le_left _ _))
  have uSound : u.RampBaseSound := by
    rw [State.RampBaseSound, boundary, State.commitBoundary_bal]
    exact sound
  have recorded := u.worked_handRound_allocation
  have fig : u.worked.handRound.bal.fig = u.worked.bal.fig := congrArg (·.fig) u.worked.handRound_bal
  have sum : u.worked.handRound.cur.sum = u.allotmentSum u.roundFractions := congrArg (·.2.1) recorded
  have allotment (b : Fin 16) :
      (u.worked.handRound.pv b).allotment = u.blockAllotment u.roundFractions b :=
    congrFun (congrArg (·.2.2.2) recorded) b
  refine ⟨u.worked.handRound, exec_roundTimerExpiry_worked s u d runs boundary live, ?_⟩
  simp only [fig, sum, allotment]
  refine ⟨rfl, rfl, ?fractions, u.allotmentSum_eq _, u.roundAllotments_le uSound left walks,
    (u.roundFigures_xCmd uSound).2.1, congrArg (·.2.2.1) recorded, ?none, ?member, ?jobs, ?slots⟩
  case fractions =>
    rw [← fractions 0 (by decide), ← fractions 1 (by decide), ← fractions 2 (by decide),
      ← fractions 3 le_rfl]
    exact congrArg (·.1) recorded
  case none =>
    intro b outside
    simp [State.blockAllotment, outside]
  case member =>
    intro b member
    simp [State.blockAllotment, State.allotmentOf, member, blockFraction]
  case jobs =>
    intro handed b al target hAl hTarget
    rw [← blockFraction] at hTarget
    exact u.worked_handRound_job live handed b al target hAl.symm hTarget
  case slots => exact fun handed b => u.worked_handRound_slot live handed b

end Sys2Proof.Machine
end

section
/-! SUPPORT. What one act of the jobs on one unit leaves as it is (`State.ActsOn`): the records of the others, the slots
of the others, the transmitters; chapters 1 and 5 through 7. -/

namespace Sys2Proof.Machine

/-- What the laws of the order slots read of a state outside the slots' marks: the bank in force, the jobs'
records, the shed stack, the slots and the transmitters. -/
def State.outline (s : State) :
    Bank × Vector GenJob 8 × Vector PvJob 16 × Vector FdrJob 32 × List StackEntry ×
      Vector (Option OrderSlot) 64 × Tx × Tx :=
  (s.act, s.seq.jobs, s.cur.jobs, s.shed.jobs, s.shed.stack, s.loop.orders, s.loop.portE.tx, s.loop.portW.tx)

/-- The job values of reset (R79, R109, R133). -/
def State.AtReset (s : State) : UnitRef → Prop
  | .genset g => s.gen g = GenJob.reset
  | .pv b => s.pv b = PvJob.reset
  | .feeder f => s.fdr f = FdrJob.reset ∧ f ∉ s.shed.stack.map (·.feeder)
  | .busmeter => True

/-- A unit that is not configured has the job values of reset. -/
def State.UnitSound (s : State) (u : UnitRef) : Prop := s.act.configured u = false → s.AtReset u

/-- A unit that the jobs may act on: a configured one, or one whose record has left its reset values. -/
def State.InUse (s : State) (u : UnitRef) : Prop := s.act.configured u = true ∨ ¬ s.AtReset u

theorem State.unitsSound_iff (s : State) : s.UnitsSound ↔ ∀ u, s.UnitSound u := by
  constructor
  · rintro ⟨gens, pvs, fdrs⟩ u
    cases u with
    | genset g => exact gens g
    | pv b => exact pvs b
    | feeder f => exact fdrs f
    | busmeter => exact fun _ => trivial
  · exact fun h => ⟨fun g => h (.genset g), fun b => h (.pv b), fun f => h (.feeder f)⟩

theorem State.UnitSound.configured {s : State} {u : UnitRef} (sound : s.UnitSound u) (used : s.InUse u) :
    s.act.configured u = true := by
  obtain configured | working := used
  · exact configured
  · exact Bool.not_eq_false _ ▸ mt sound working

/-- What waits at the station of a set is what the set stands ordered. -/
def State.SlotAgrees (s : State) (g : Fin 8) : Prop :=
  ∀ a, s.act.stationOf (.genset g) = some a → ∀ o ∈ s.slot a, o.code = (s.gen g).order

/-- From `s` to `t` nothing has been done but to one unit, or to none: no other unit has left its reset values,
no other order has been placed, what waits at the set acted on still is what it stands ordered, and no insertion
has begun. -/
structure State.ActsOn (s : State) (w : Option UnitRef) (t : State) : Prop where
  act : t.act = s.act
  gens : ∀ g, w ≠ some (.genset g) → t.gen g = s.gen g
  rests : ∀ u, w ≠ some u → s.AtReset u → t.AtReset u
  slots : ∀ a o, t.slot a = some o →
    (∃ x, s.slot a = some x ∧ x.code = o.code) ∨ ∃ u, w = some u ∧ s.act.stationOf u = some a
  agrees : ∀ g, w = some (.genset g) → s.SlotAgrees g → t.SlotAgrees g
  sends : ∀ p r f x, (t.port p).tx = .inserting r f x → ∃ y, (s.port p).tx = .inserting r f y

namespace State.ActsOn

theorem refl (s : State) (w : Option UnitRef) : s.ActsOn w s :=
  ⟨rfl, fun _ _ => rfl, fun _ _ => id, fun _ o h => .inl ⟨o, h, rfl⟩, fun _ _ => id, fun _ _ _ x h => ⟨x, h⟩⟩

theorem trans {s t u : State} {w : Option UnitRef} (h : s.ActsOn w t) (k : t.ActsOn w u) : s.ActsOn w u where
  act := k.act.trans h.act
  gens g hg := (k.gens g hg).trans (h.gens g hg)
  rests v hv := k.rests v hv ∘ h.rests v hv
  slots a o ho := by
    obtain ⟨x, hx, code⟩ | placed := k.slots a o ho
    · obtain ⟨y, hy, code'⟩ | placed := h.slots a x hx
      · exact .inl ⟨y, hy, code'.trans code⟩
      · exact .inr placed
    · exact .inr (h.act ▸ placed)
  agrees g hg := k.agrees g hg ∘ h.agrees g hg
  sends p r f x hx := by
    obtain ⟨y, hy⟩ := k.sends p r f x hx
    exact h.sends p r f y hy

theorem ite {c : Prop} [Decidable c] {s t u : State} {w : Option UnitRef} (h : c → s.ActsOn w t)
    (k : ¬ c → s.ActsOn w u) : s.ActsOn w (if c then t else u) := by
  split
  next hc => exact h hc
  next hc => exact k hc

/-- What is done to no unit may be done beside what is done to one. -/
theorem of_none {s t : State} (w : Option UnitRef) (h : s.ActsOn none t) : s.ActsOn w t where
  act := h.act
  gens g _ := h.gens g nofun
  rests u _ := h.rests u nofun
  slots a o ho := (h.slots a o ho).imp_right nofun
  agrees g _ agrees a ha o ho := by
    obtain ⟨x, hx, code⟩ | ⟨_, none, _⟩ := h.slots a o ho
    · rw [← code, h.gens g nofun]
      exact agrees a (h.act ▸ ha) x hx
    · cases none
  sends := h.sends

/-- A change of the slots and the transmitters alone. -/
theorem outbound {s t : State} (jobs : (t.act, t.seq.jobs, t.cur.jobs, t.shed.jobs, t.shed.stack) =
      (s.act, s.seq.jobs, s.cur.jobs, s.shed.jobs, s.shed.stack))
    (slots : ∀ a o, t.slot a = some o → ∃ x, s.slot a = some x ∧ x.code = o.code)
    (sends : ∀ p r f x, (t.port p).tx = .inserting r f x → ∃ y, (s.port p).tx = .inserting r f y) :
    s.ActsOn none t := by
  simp only [Prod.mk.injEq] at jobs
  obtain ⟨act, gens, pvs, fdrs, stack⟩ := jobs
  refine ⟨act, fun g _ => ?_, fun u _ => ?_, fun a o h => .inl (slots a o h), nofun, sends⟩
  · simp only [State.gen, gens]
  · cases u <;> simp only [State.AtReset, State.gen, State.pv, State.fdr, gens, pvs, fdrs, stack] <;> exact id

theorem quiet {s t : State} (w : Option UnitRef) (h : t.outline = s.outline) : s.ActsOn w t := by
  simp only [State.outline, Prod.mk.injEq] at h
  obtain ⟨act, gens, pvs, fdrs, stack, orders, east, west⟩ := h
  refine of_none _ (outbound (by simp only [act, gens, pvs, fdrs, stack]) (fun a o h => ⟨o, ?_, rfl⟩) ?_)
  · simpa only [State.slot, orders] using h
  · intro p r f x h
    cases p with
    | e => exact ⟨x, east ▸ h⟩
    | w => exact ⟨x, west ▸ h⟩

end State.ActsOn

end Sys2Proof.Machine
end

section
/-! SUPPORT. The acts on a slot, on a transmitter (1.7) and on one record. -/

namespace Sys2Proof.Machine

/-! ## Transmitters and slots -/

theorem Tx.disown_inserting {t : Tx} {q r : EntryRef} {f : Frame} {x : Bool}
    (h : t.disown q = .inserting r f x) : ∃ y, t = .inserting r f y := by
  cases t with
  | idle => cases h
  | forwarding => cases h
  | inserting r' f' y => cases h; exact ⟨y, rfl⟩

theorem PortState.startForward_inserting {x : PortState} {r : EntryRef} {f : Frame} {y : Bool}
    (h : x.startForward.tx = .inserting r f y) : x.tx = .inserting r f y := by
  unfold PortState.startForward at h
  split at h
  · cases h
  · exact h

theorem PortState.abort_inserting (x : PortState) (r : EntryRef) (f : Frame) (y : Bool) :
    x.abort.tx ≠ .inserting r f y := by
  intro h
  unfold PortState.abort at h
  split at h
  · cases PortState.startForward_inserting h
  next idle => rw [idle] at h; cases h
  next forwarding => rw [forwarding] at h; cases h

/-- An insertion that goes on after a cut is one that the cut does not name. -/
theorem PortState.cutOrder_inserting {x : PortState} {sel : Addr → Byte → Bool} {r : EntryRef} {f : Frame}
    {y : Bool} (h : (x.cutOrder sel).tx = .inserting r f y) :
    x.tx = .inserting r f y ∧ ∀ a, r = .order a → sel a f.orderCode = false := by
  unfold PortState.cutOrder at h
  split at h
  next a g z sends =>
    split at h
    next => exact absurd h (x.abort_inserting r f y)
    next spared =>
      refine ⟨h, fun b hb => ?_⟩
      rw [sends, hb] at h
      cases h
      exact Bool.not_eq_true _ ▸ spared
  next others =>
    exact ⟨h, fun a ha => absurd (ha ▸ h) (others a f y)⟩

theorem State.cutOrders_inserting {s : State} {sel : Addr → Byte → Bool} {p : Port} {r : EntryRef} {f : Frame}
    {y : Bool} (h : ((s.cutOrders sel).port p).tx = .inserting r f y) :
    (s.port p).tx = .inserting r f y ∧ ∀ a, r = .order a → sel a f.orderCode = false := by
  cases p <;> exact PortState.cutOrder_inserting h

theorem State.disown_inserting {s : State} {q r : EntryRef} {p : Port} {f : Frame} {x : Bool}
    (h : (State.port { s with loop := s.loop.disown q } p).tx = .inserting r f x) :
    ∃ y, (s.port p).tx = .inserting r f y := by
  cases p <;> exact Tx.disown_inserting h

@[simp] theorem State.placeFor_act (s : State) (u : UnitRef) (code : OrderCode) (tag : Byte) (cap : Nat)
    (cls : OrderClass) : (s.placeFor u code tag cap cls).act = s.act :=
  congrArg (·.bank.active) (s.placeFor_kept u code tag cap cls)

@[simp] theorem State.emptyFor_act (s : State) (u : UnitRef) : (s.emptyFor u).act = s.act :=
  congrArg (·.bank.active) (s.emptyFor_kept u)

theorem State.emptyFor_agrees (s : State) (g : Fin 8) : (s.emptyFor (.genset g)).SlotAgrees g := by
  intro a station o waits
  rw [State.emptyFor_act] at station
  rw [State.emptyFor_slot _ _ a station] at waits
  cases waits

theorem State.placeFor_agrees (s : State) (g : Fin 8) {code : OrderCode} (tag : Byte) (cap : Nat) (cls : OrderClass)
    (stands : code = (s.gen g).order) : (s.placeFor (.genset g) code tag cap cls).SlotAgrees g := by
  intro a station o waits
  rw [State.placeFor_act] at station
  obtain ⟨x, placed, same, -⟩ := s.placeFor_places (.genset g) code tag cap cls a station
  cases placed.symm.trans waits
  rw [State.placeFor_gen, same, stands]

namespace State.ActsOn

theorem fillNotice (s : State) : s.ActsOn none s.fillNotice :=
  outbound rfl (fun _ o h => ⟨o, h, rfl⟩) fun p _ _ _ h => by cases p <;> exact Tx.disown_inserting h

theorem raise (s : State) (f : Flag) (w : Option UnitRef) : s.ActsOn w (s.raise f) :=
  have flagged : s.ActsOn none { s with sum := s.sum.setFlag f } := quiet none rfl
  of_none w (.ite (fun _ => flagged.trans (fillNotice _)) fun _ => flagged)

theorem cutOrders (s : State) (sel : Addr → Byte → Bool) (w : Option UnitRef) :
    s.ActsOn w (s.cutOrders sel) :=
  of_none w (outbound rfl (fun _ o h => ⟨o, h, rfl⟩) fun _ _ _ x h => ⟨x, (State.cutOrders_inserting h).1⟩)

theorem emptySlot (s : State) (a : Addr) (w : Option UnitRef) : s.ActsOn w (s.emptySlot a) := by
  refine of_none w (outbound rfl (fun b o h => ?_) fun p _ _ _ h => by cases p <;> exact Tx.disown_inserting h)
  by_cases hb : b = a
  · subst hb
    cases (s.emptySlot_slot b).symm.trans h
  · exact ⟨o, (s.emptySlot_slot_other a b hb).symm.trans h, rfl⟩

theorem emptyFor (s : State) (u : UnitRef) (w : Option UnitRef) : s.ActsOn w (s.emptyFor u) := by
  unfold State.emptyFor
  split
  · exact refl s w
  · exact emptySlot s _ w

theorem forEach {ι : Type} {w : Option UnitRef} (f : ι → State → State) (h : ∀ i s, State.ActsOn s w (f i s))
    (is : List ι) (s : State) : s.ActsOn w (forEach is f s) := by
  unfold Machine.forEach
  induction is generalizing s with
  | nil => exact refl s w
  | cons i is ih => exact (h i s).trans (ih (f i s))

theorem withdraw (s : State) (codes : List OrderCode) : s.ActsOn none (s.withdraw codes) :=
  (cutOrders s _ none).trans
    (forEach _ (fun a t => .ite (fun _ => emptySlot t a none) fun _ => refl t none) addresses _)

/-- An order placed for the unit acted on; for a set, the order that it stands. -/
theorem placeFor (s : State) (u : UnitRef) (code : OrderCode) (tag : Byte) (cap : Nat) (cls : OrderClass)
    (stands : ∀ g, u = .genset g → code = (s.gen g).order) :
    s.ActsOn (some u) (s.placeFor u code tag cap cls) := by
  refine ⟨State.placeFor_act s u code tag cap cls, fun g _ => s.placeFor_gen u code tag cap cls g,
    fun v _ h => ?_, fun b o h => ?_,
    fun g hg _ => Option.some.inj hg ▸ State.placeFor_agrees s g tag cap cls (stands g (Option.some.inj hg)),
    fun p r f x h => ?_⟩
  all_goals unfold State.placeFor at *; split at *
  · exact h
  · cases v <;> exact h
  · exact .inl ⟨o, h, rfl⟩
  next a station =>
    by_cases hb : b = a
    · exact .inr ⟨u, rfl, hb ▸ station⟩
    · exact .inl ⟨o, (s.place_slot_other a b code tag cap cls hb).symm.trans h, rfl⟩
  · exact ⟨x, h⟩
  · cases p <;> exact Tx.disown_inserting h

/-! ## The record of one unit -/

/-- A change of a set's record, then of what is sent to it. -/
theorem modGen_then {s t : State} {g : Fin 8} {f : GenJob → GenJob}
    (h : (s.modGen g f).ActsOn (some (.genset g)) t) (agrees : s.SlotAgrees g → t.SlotAgrees g) :
    s.ActsOn (some (.genset g)) t where
  act := h.act
  gens k hk := (h.gens k hk).trans (s.modGen_gen_other g k f fun e => hk (by rw [e]))
  rests u hu rest := by
    refine h.rests u hu ?_
    cases u with
    | genset k => exact (s.modGen_gen_other g k f fun e => hu (e ▸ rfl)).trans rest
    | pv | feeder | busmeter => exact rest
  slots := h.slots
  agrees k hk := by cases Option.some.inj hk; exact agrees
  sends := h.sends

theorem modGen (s : State) (g : Fin 8) (f : GenJob → GenJob) (order : (f (s.gen g)).order = (s.gen g).order) :
    s.ActsOn (some (.genset g)) (s.modGen g f) := by
  refine modGen_then (refl _ _) fun agrees a ha o ho => ?_
  rw [State.modGen_gen, order]
  exact agrees a ha o ho

theorem modPv (s : State) (b : Fin 16) (f : PvJob → PvJob) : s.ActsOn (some (.pv b)) (s.modPv b f) where
  act := rfl
  gens _ _ := rfl
  rests u hu h := by
    cases u with
    | pv k => exact (s.modPv_pv_other b k f fun e => hu (e ▸ rfl)).trans h
    | genset | feeder | busmeter => exact h
  slots _ o h := .inl ⟨o, h, rfl⟩
  agrees _ h := nomatch h
  sends _ _ _ x h := ⟨x, h⟩

/-- A change of the shedding unit that leaves the records of the feeders but one, and stacks no other. -/
theorem feeder {s t : State} {i : Fin 32} (outside : t.outsideShed = s.outsideShed)
    (kept : (t.act, t.loop) = (s.act, s.loop)) (jobs : ∀ k, k ≠ i → t.fdr k = s.fdr k)
    (stack : ∀ k, k ≠ i → k ∈ t.shed.stack.map (·.feeder) → k ∈ s.shed.stack.map (·.feeder)) :
    s.ActsOn (some (.feeder i)) t := by
  simp only [State.outsideShed, Prod.mk.injEq] at outside kept
  obtain ⟨-, cur, seq, -⟩ := outside
  obtain ⟨act, loop⟩ := kept
  refine ⟨act, fun g _ => ?_, fun u hu h => ?_, fun a o h => .inl ⟨o, ?_, rfl⟩, nofun, fun p r f x h => ⟨x, ?_⟩⟩
  · simp only [State.gen, seq]
  · cases u with
    | feeder k =>
      have hk : k ≠ i := fun e => hu (e ▸ rfl)
      exact ⟨(jobs k hk).trans h.1, mt (stack k hk) h.2⟩
    | genset g => simpa only [State.AtReset, State.gen, seq] using h
    | pv b => simpa only [State.AtReset, State.pv, cur] using h
    | busmeter => exact h
  · simpa only [State.slot, loop] using h
  · cases p <;> simpa only [State.port, loop] using h

/-- Entries taken off the stack. -/
theorem stack (s : State) (es : List StackEntry) (fewer : ∀ e ∈ es, e ∈ s.shed.stack) (w : Option UnitRef) :
    s.ActsOn w { s with shed := { s.shed with stack := es } } := by
  refine of_none w ⟨rfl, fun _ _ => rfl, fun u _ rest => ?_, fun _ o h => .inl ⟨o, h, rfl⟩, nofun,
    fun _ _ _ x h => ⟨x, h⟩⟩
  cases u with
  | feeder k =>
    refine ⟨rest.1, fun stacked => rest.2 ?_⟩
    obtain ⟨e, he, rfl⟩ := List.mem_map.mp stacked
    exact List.mem_map_of_mem (fewer e he)
  | genset | pv | busmeter => exact rest

theorem modFdr (s : State) (i : Fin 32) (f : FdrJob → FdrJob) : s.ActsOn (some (.feeder i)) (s.modFdr i f) :=
  feeder rfl rfl (fun k hk => s.modFdr_fdr_other i k f hk) fun _ _ => id

end State.ActsOn
end Sys2Proof.Machine
end

section
/-! SUPPORT. What the jobs do within one event, as moves on one unit each (`State.Moves`), and the laws of R83 and R95
that such moves keep. -/

namespace Sys2Proof.Machine

/-! ## Moves -/

/-- From `s` to `t` a set has come to a state and a standing order as chapter 5 lets it: START is ordered in
CRANKING alone (R82), a start slot is taken while one is free (R83), and into LOCKOUT an insertion of a START
for the set is cut (R95). -/
structure State.Turns (s : State) (g : Fin 8) (t : State) : Prop where
  start : ((s.gen g).order = .start → (s.gen g).state = .cranking) →
    (t.gen g).order = .start → (t.gen g).state = .cranking
  room : (t.gen g).state.starting = true →
    (s.gen g).state.starting = true ∨ s.startCount < s.act.parallelStarts
  cut : (t.gen g).state = .lockout → (s.gen g).state = .lockout ∨ t.SendsNoStart g

/-- One move of the jobs: it acts on one unit in use, or on none, and a set turns as chapter 5 lets it. -/
structure State.Move (s : State) (w : Option UnitRef) (t : State) : Prop extends s.ActsOn w t where
  used : ∀ u, w = some u → s.InUse u
  turns : ∀ g, w = some (.genset g) → s.Turns g t

/-- What the jobs do within one event, move after move. -/
def State.Moves : State → State → Prop := Relation.ReflTransGen fun s t => ∃ w, s.Move w t

/-- Moves that all act on one unit. -/
def State.MovesOn (s : State) (u : UnitRef) (t : State) : Prop := Relation.ReflTransGen (State.Move · (some u) ·) s t

/-- START is ordered of a set in CRANKING alone. -/
def State.StartsInCranking (s : State) : Prop := ∀ g, (s.gen g).order = .start → (s.gen g).state = .cranking

/-- An order waits at the station of a configured unit alone. -/
def State.WaitsAtUnits (s : State) : Prop :=
  ∀ a, s.slot a ≠ none → ∃ u ∈ s.act.mapped a, s.act.stationOf u = some a

theorem State.slotsSound_iff (s : State) :
    s.SlotsSound ↔ s.WaitsAtUnits ∧ (∀ g, s.SlotAgrees g) ∧ s.StartsInCranking := Iff.rfl

theorem Bank.mapped_of_stationOf {k : Bank} {u : UnitRef} {a : Addr} (station : k.stationOf u = some a)
    (configured : k.configured u = true) : k.mapped a = some u := by
  simp [Bank.mapped, Bank.station_of_stationOf station, configured]

theorem Bank.configured_of_mapped {k : Bank} {u : UnitRef} {a : Addr} (h : k.mapped a = some u) :
    k.configured u = true := by
  unfold Bank.mapped at h
  split at h
  · cases h
  · split at h
    next configured => cases h; exact configured
    next => cases h

/-! ### What a move keeps -/

theorem State.startCount_eq_card (s : State) :
    s.startCount = (Finset.univ.filter fun g => (s.gen g).state.starting = true).card := by
  have decided : (fun g => (s.gen g).state.starting) = fun g => decide ((s.gen g).state.starting = true) := by
    simp
  rw [State.startCount, decided]
  rfl

/-- The law of R83: the count of the sets that hold a start slot. -/
theorem State.Move.startsBounded {s t : State} {w : Option UnitRef} (m : s.Move w t) (h : s.StartsBounded) :
    t.StartsBounded := by
  unfold State.StartsBounded at h ⊢
  rw [m.act]
  by_cases grows : ∃ g, w = some (.genset g) ∧ (t.gen g).state.starting = true ∧ (s.gen g).state.starting = false
  · obtain ⟨g, rfl, starting, before⟩ := grows
    have room := ((m.turns g rfl).room starting).resolve_left (by simp [before])
    suffices t.startCount ≤ s.startCount + 1 by omega
    simp only [State.startCount_eq_card]
    refine le_trans (Finset.card_le_card fun k hk => ?_) (Finset.card_insert_le g _)
    by_cases e : k = g
    · exact e ▸ Finset.mem_insert_self _ _
    · rw [Finset.mem_filter, m.gens k (by simpa using Ne.symm e)] at hk
      exact Finset.mem_insert_of_mem (Finset.mem_filter.mpr hk)
  · suffices t.startCount ≤ s.startCount from this.trans h
    simp only [State.startCount_eq_card]
    refine Finset.card_le_card fun k hk => ?_
    rw [Finset.mem_filter] at hk ⊢
    by_cases e : w = some (.genset k)
    · exact ⟨hk.1, Bool.not_eq_false _ ▸ fun before => grows ⟨k, e, hk.2, before⟩⟩
    · rwa [m.gens k e] at hk

theorem State.Move.unitSound {s t : State} {w : Option UnitRef} (m : s.Move w t) {u : UnitRef}
    (h : s.UnitSound u) : t.UnitSound u := by
  intro off
  rw [m.act] at off
  by_cases e : w = some u
  · cases (h.configured (m.used u e)).symm.trans off
  · exact m.rests u e (h off)

theorem State.Move.slotsSound {s t : State} {w : Option UnitRef} (m : s.Move w t)
    (sound : ∀ u, w = some u → s.UnitSound u) (h : s.SlotsSound) : t.SlotsSound := by
  obtain ⟨waits, agrees, starts⟩ := s.slotsSound_iff.mp h
  refine t.slotsSound_iff.mpr ⟨fun a ha => ?_, fun g => ?_, fun g => ?_⟩
  · rw [m.act]
    obtain ⟨o, ho⟩ := Option.ne_none_iff_exists'.mp ha
    obtain ⟨x, hx, -⟩ | ⟨u, hu, station⟩ := m.slots a o ho
    · exact waits a (by simp [hx])
    · exact ⟨u, Bank.mapped_of_stationOf station ((sound u hu).configured (m.used u hu)), station⟩
  · by_cases e : w = some (.genset g)
    · exact m.agrees g e (agrees g)
    · intro a ha o ho
      rw [m.act] at ha
      obtain ⟨x, hx, code⟩ | ⟨u, hu, station⟩ := m.slots a o ho
      · rw [← code, m.gens g e]
        exact agrees g a ha x hx
      · exact absurd (hu.trans (congrArg some (Bank.stationOf_inj station ha))) e
  · by_cases e : w = some (.genset g)
    · exact (m.turns g e).start (starts g)
    · rw [m.gens g e]
      exact starts g

/-- From `s` to `t` no START has begun to be sent to a set in LOCKOUT (R95); one that a commit moves is left out. -/
def State.LocksStarts (s t : State) : Prop :=
  ∀ g, (t.gen g).state = .lockout →
    ((s.gen g).state = .lockout → t.act.stationOf (.genset g) = s.act.stationOf (.genset g) ∧ s.SendsNoStart g) →
    t.SendsNoStart g

theorem State.SendsNoStart.of_sends {s t : State} {g : Fin 8} (h : s.SendsNoStart g)
    (station : t.act.stationOf (.genset g) = s.act.stationOf (.genset g))
    (sends : ∀ p r f x, (t.port p).tx = .inserting r f x → ∃ y, (s.port p).tx = .inserting r f y) :
    t.SendsNoStart g := by
  intro p a f x ha hx
  obtain ⟨y, hy⟩ := sends p _ f x hx
  exact h p a f y (station ▸ ha) hy

theorem State.LocksStarts.of_kept {s t : State} (lockout : ∀ g, (t.gen g).state = .lockout → (s.gen g).state = .lockout)
    (sends : ∀ p r f x, (t.port p).tx = .inserting r f x → ∃ y, (s.port p).tx = .inserting r f y) :
    s.LocksStarts t := by
  intro g locked before
  obtain ⟨station, silent⟩ := before (lockout g locked)
  exact silent.of_sends station sends

theorem State.LocksStarts.trans {s t u : State} (h : s.LocksStarts t) (k : t.LocksStarts u) (act : u.act = t.act) :
    s.LocksStarts u := by
  intro g locked before
  exact k g locked fun midway => ⟨by rw [act], h g midway fun first => act ▸ before first⟩

theorem State.Move.locksStarts {s t : State} {w : Option UnitRef} (m : s.Move w t) : s.LocksStarts t := by
  intro g locked before
  by_cases was : (s.gen g).state = .lockout
  · obtain ⟨station, silent⟩ := before was
    exact silent.of_sends station m.sends
  · by_cases e : w = some (.genset g)
    · exact ((m.turns g e).cut locked).resolve_left was
    · exact absurd (m.gens g e ▸ locked) was

/-- A move of one set. -/
theorem State.Move.set {s t : State} {g : Fin 8} (used : s.InUse (.genset g)) (h : s.ActsOn (some (.genset g)) t)
    (turns : s.Turns g t) : s.Move (some (.genset g)) t :=
  ⟨h, fun _ e => Option.some.inj e ▸ used, fun k e => by cases e; exact turns⟩

/-! ### What moves keep -/

namespace State.Moves

theorem refl (s : State) : s.Moves s := Relation.ReflTransGen.refl

theorem trans {s t u : State} (h : s.Moves t) (k : t.Moves u) : s.Moves u := Relation.ReflTransGen.trans h k

theorem ite {c : Prop} [Decidable c] {s t u : State} (h : c → s.Moves t) (k : ¬ c → s.Moves u) :
    s.Moves (if c then t else u) := by
  split
  next hc => exact h hc
  next hc => exact k hc

/-- What every single move keeps, moves keep. -/
theorem keep {P : State → Prop} (step : ∀ s t w, s.Move w t → P s → P t) {s t : State} (h : s.Moves t) :
    P s → P t := by
  intro first
  induction h with
  | refl => exact first
  | tail _ last ih =>
    obtain ⟨w, m⟩ := last
    exact step _ _ w m ih

theorem act {s t : State} (h : s.Moves t) : t.act = s.act :=
  keep (P := fun t => t.act = s.act) (fun _ _ _ m e => m.act.trans e) h rfl

theorem startsBounded {s t : State} (h : s.Moves t) : s.StartsBounded → t.StartsBounded :=
  keep (fun _ _ _ m => m.startsBounded) h

theorem unitSound {s t : State} (h : s.Moves t) {u : UnitRef} : s.UnitSound u → t.UnitSound u :=
  keep (fun _ _ _ m => m.unitSound) h

theorem sound {s t : State} (h : s.Moves t) :
    (∀ u, s.UnitSound u) ∧ s.SlotsSound → (∀ u, t.UnitSound u) ∧ t.SlotsSound :=
  keep (P := fun t => (∀ u, t.UnitSound u) ∧ t.SlotsSound)
    (fun _ _ _ m ⟨units, slots⟩ => ⟨fun u => m.unitSound (units u), m.slotsSound (fun u _ => units u) slots⟩) h

theorem unitsSound {s t : State} (h : s.Moves t) (units : s.UnitsSound) : t.UnitsSound :=
  t.unitsSound_iff.mpr fun u => h.unitSound (s.unitsSound_iff.mp units u)

theorem slotsSound {s t : State} (h : s.Moves t) (units : s.UnitsSound) (slots : s.SlotsSound) : t.SlotsSound :=
  (h.sound ⟨s.unitsSound_iff.mp units, slots⟩).2

theorem locksStarts {s t : State} (h : s.Moves t) : s.LocksStarts t := by
  induction h with
  | refl => exact State.LocksStarts.of_kept (fun _ => id) fun _ _ _ x h => ⟨x, h⟩
  | tail _ last ih =>
    obtain ⟨w, m⟩ := last
    exact ih.trans m.locksStarts m.act

/-! ### Making moves -/

theorem of_move {s t : State} {w : Option UnitRef} (m : s.Move w t) : s.Moves t :=
  Relation.ReflTransGen.single ⟨w, m⟩

theorem of_aside {s t : State} (h : s.ActsOn none t) : s.Moves t := of_move ⟨h, nofun, nofun⟩

theorem quiet {s t : State} (h : t.outline = s.outline) : s.Moves t := of_aside (.quiet none h)

theorem raise (s : State) (f : Flag) : s.Moves (s.raise f) := of_aside (.raise s f none)

theorem of_unit {s t : State} {u : UnitRef} (notSet : ∀ g, u ≠ .genset g) (used : s.InUse u)
    (h : s.ActsOn (some u) t) : s.Moves t :=
  of_move ⟨h, fun _ e => Option.some.inj e ▸ used, fun g e => absurd (Option.some.inj e) (notSet g)⟩

theorem of_set {s t : State} {g : Fin 8} (used : s.InUse (.genset g)) (h : s.ActsOn (some (.genset g)) t)
    (turns : s.Turns g t) : s.Moves t := of_move (.set used h turns)

/-- A walk, each visit of which may build on what the walk has left alone. -/
theorem forEach_from {ι : Type} {s : State} (f : ι → State → State) (is : List ι)
    (visit : ∀ i ∈ is, ∀ t, s.Moves t → t.Moves (f i t)) : s.Moves (forEach is f s) := by
  suffices ∀ t, s.Moves t → s.Moves (Machine.forEach is f t) from this s (refl s)
  unfold Machine.forEach
  induction is with
  | nil => exact fun t h => h
  | cons i is ih =>
    obtain ⟨first, later⟩ := List.forall_mem_cons.mp visit
    exact fun t h => ih later (f i t) (h.trans (first t h))

theorem forEach {ι : Type} (f : ι → State → State) (visit : ∀ i t, State.Moves t (f i t)) (is : List ι)
    (s : State) : s.Moves (forEach is f s) := forEach_from f is fun i _ t _ => visit i t

end State.Moves

namespace State.MovesOn

theorem refl (s : State) (u : UnitRef) : s.MovesOn u s := Relation.ReflTransGen.refl

theorem of_move {s t : State} {u : UnitRef} (m : s.Move (some u) t) : s.MovesOn u t := Relation.ReflTransGen.single m

theorem trans {s t v : State} {u : UnitRef} (h : s.MovesOn u t) (k : t.MovesOn u v) : s.MovesOn u v :=
  Relation.ReflTransGen.trans h k

theorem ite {c : Prop} [Decidable c] {s t v : State} {u : UnitRef} (h : c → s.MovesOn u t)
    (k : ¬ c → s.MovesOn u v) : s.MovesOn u (if c then t else v) := by
  split
  next hc => exact h hc
  next hc => exact k hc

theorem moves {s t : State} {u : UnitRef} (h : s.MovesOn u t) : s.Moves t :=
  Relation.ReflTransGen.mono (fun _ _ m => ⟨some u, m⟩) _ _ h

theorem actsOn {s t : State} {u : UnitRef} (h : s.MovesOn u t) : s.ActsOn (some u) t := by
  induction h with
  | refl => exact .refl s _
  | tail _ m ih => exact ih.trans m.toActsOn

theorem slotsSound {s t : State} {u : UnitRef} (h : s.MovesOn u t) (sound : s.UnitSound u) (slots : s.SlotsSound) :
    t.SlotsSound := by
  have both : t.UnitSound u ∧ t.SlotsSound := by
    induction h with
    | refl => exact ⟨sound, slots⟩
    | tail _ m ih =>
      exact ⟨m.unitSound ih.1, m.slotsSound (fun v e => Option.some.inj e ▸ ih.1) ih.2⟩
  exact both.2

end State.MovesOn
end Sys2Proof.Machine
end

section
/-! SUPPORT. The sequencer's entries (chapter 5) that leave a set without a start slot, out of LOCKOUT and not ordered START. -/

namespace Sys2Proof.Machine

/-! ## The record of a set under the sequencer's operations -/

@[simp] theorem State.raise_gen (s : State) (f : Flag) (g : Fin 8) : (s.raise f).gen g = s.gen g :=
  (ActsOn.raise s f none).gens g nofun

@[simp] theorem State.cutOrders_gen (s : State) (sel : Addr → Byte → Bool) (g : Fin 8) :
    (s.cutOrders sel).gen g = s.gen g := rfl

@[simp] theorem State.genNone_gen (s : State) (g : Fin 8) :
    (s.genNone g).gen g =
      { s.gen g with order := .none, sendCount := 0, taken := false, unanswered := false } := by
  simp [State.genNone]

@[simp] theorem State.genNewOrder_state (s : State) (g : Fin 8) (code : OrderCode) (cls : OrderClass) :
    ((s.genNewOrder g code cls).gen g).state = (s.gen g).state := by
  unfold State.genNewOrder
  dsimp only
  split <;> simp

@[simp] theorem State.genNewOrder_order (s : State) (g : Fin 8) (code : OrderCode) (cls : OrderClass) :
    ((s.genNewOrder g code cls).gen g).order = code := by
  unfold State.genNewOrder
  dsimp only
  split <;> simp

@[simp] theorem State.genOrder_state (s : State) (g : Fin 8) (code : OrderCode) :
    ((s.genOrder g code).gen g).state = (s.gen g).state := by
  unfold State.genOrder
  split <;> simp

@[simp] theorem State.genOrder_order (s : State) (g : Fin 8) (code : OrderCode) :
    ((s.genOrder g code).gen g).order = code := by
  unfold State.genOrder
  split
  next stands => simpa using stands
  next => simp

theorem State.setGenState_gen (s : State) (g : Fin 8) (x : GenState) (keep : Bool) :
    (s.setGenState g x keep).gen g =
      { s.gen g with
        state := x, before := none, sup := none, mark := keep && (s.gen g).mark
        minRun := if x.onLine then (s.gen g).minRun else .stopped } := by
  unfold State.setGenState
  dsimp only
  split <;> exact s.modGen_gen g _

@[simp] theorem State.setGenState_state (s : State) (g : Fin 8) (x : GenState) (keep : Bool) :
    ((s.setGenState g x keep).gen g).state = x := by rw [State.setGenState_gen]

@[simp] theorem State.setGenState_order (s : State) (g : Fin 8) (x : GenState) (keep : Bool) :
    ((s.setGenState g x keep).gen g).order = (s.gen g).order := by rw [State.setGenState_gen]

@[simp] theorem State.startSup_state (s : State) (g : Fin 8) (sec : Nat) :
    ((s.startSup g sec).gen g).state = (s.gen g).state := by simp [State.startSup]

@[simp] theorem State.startSup_order (s : State) (g : Fin 8) (sec : Nat) :
    ((s.startSup g sec).gen g).order = (s.gen g).order := by simp [State.startSup]

/-! ## What they act on -/

namespace State.ActsOn

theorem genNone (s : State) (g : Fin 8) : s.ActsOn (some (.genset g)) (s.genNone g) :=
  modGen_then (emptyFor _ _ _) fun _ => State.emptyFor_agrees _ g

theorem genNewOrder (s : State) (g : Fin 8) (code : OrderCode) (cls : OrderClass) :
    s.ActsOn (some (.genset g)) (s.genNewOrder g code cls) := by
  refine .ite (fun _ => modGen_then (emptyFor _ _ _) fun _ => State.emptyFor_agrees _ g)
    fun _ => modGen_then (placeFor _ _ _ _ _ _ ?_) fun _ => State.placeFor_agrees _ g _ _ _ ?_
  · rintro k ⟨⟩
    simp
  · simp

theorem genOrder (s : State) (g : Fin 8) (code : OrderCode) : s.ActsOn (some (.genset g)) (s.genOrder g code) :=
  .ite (fun _ => refl s _) fun _ => genNewOrder s g code .routine

theorem setGenState (s : State) (g : Fin 8) (x : GenState) (keep : Bool) :
    s.ActsOn (some (.genset g)) (s.setGenState g x keep) :=
  (modGen s g _ rfl).trans (.ite (fun _ => refl _ _) fun _ => quiet _ rfl)

theorem startSup (s : State) (g : Fin 8) (sec : Nat) : s.ActsOn (some (.genset g)) (s.startSup g sec) :=
  modGen s g _ rfl

end State.ActsOn

/-! ## A set that comes to rest, or off its start -/

/-- A set that holds no start slot, is not in LOCKOUT and does not stand ordered START. -/
def GenJob.Calm (j : GenJob) : Prop := j.order ≠ .start ∧ j.state.starting = false ∧ j.state ≠ .lockout

/-- From `s` to `t` one set has been brought to such a state, and nothing else has been done. -/
structure State.Calms (s : State) (g : Fin 8) (t : State) : Prop where
  acts : s.ActsOn (some (.genset g)) t
  calm : (t.gen g).Calm

theorem State.inUse_of_state {s : State} {g : Fin 8} (h : (s.gen g).state ≠ .notReady) : s.InUse (.genset g) :=
  .inr fun rest => h (congrArg GenJob.state rest)

theorem State.inUse_of_starting {s : State} {g : Fin 8} (h : (s.gen g).state.starting = true) :
    s.InUse (.genset g) := State.inUse_of_state fun e => by simp [e, GenState.starting] at h

namespace State.Calms

theorem after {s t u : State} {g : Fin 8} (h : s.ActsOn (some (.genset g)) t) (k : t.Calms g u) : s.Calms g u :=
  ⟨h.trans k.acts, k.calm⟩

theorem move {s t : State} {g : Fin 8} (h : s.Calms g t) (used : s.InUse (.genset g)) :
    s.Move (some (.genset g)) t := by
  obtain ⟨acts, order, state, notLocked⟩ := h
  exact .set used acts ⟨fun _ e => absurd e order, fun e => absurd (state.symm.trans e) nofun,
    fun e => absurd e notLocked⟩

theorem moves {s t : State} {g : Fin 8} (h : s.Calms g t) (used : s.InUse (.genset g)) : s.Moves t :=
  .of_move (h.move used)

theorem ite {c : Prop} [Decidable c] {s t u : State} {g : Fin 8} (h : c → s.Calms g t)
    (k : ¬ c → s.Calms g u) : s.Calms g (if c then t else u) := by
  split
  next hc => exact h hc
  next hc => exact k hc

theorem setGenState (s : State) (g : Fin 8) (x : GenState) (keep : Bool) (order : (s.gen g).order ≠ .start)
    (starting : x.starting = false) (notLocked : x ≠ .lockout) : s.Calms g (s.setGenState g x keep) :=
  ⟨.setGenState s g x keep, by simpa [GenJob.Calm] using ⟨order, starting, notLocked⟩⟩

/-- A state entered with another standing order than START. -/
theorem entered (s : State) (g : Fin 8) (x : GenState) (keep : Bool) (code : OrderCode) (order : code ≠ .start)
    (starting : x.starting = false) (notLocked : x ≠ .lockout) :
    s.Calms g ((s.setGenState g x keep).genOrder g code) :=
  ⟨(ActsOn.setGenState s g x keep).trans (.genOrder _ g code), by
    simpa [GenJob.Calm] using ⟨order, starting, notLocked⟩⟩

/-- A state entered standing NONE. -/
theorem enteredNone (s : State) (g : Fin 8) (x : GenState) (keep : Bool) (starting : x.starting = false)
    (notLocked : x ≠ .lockout) : s.Calms g ((s.setGenState g x keep).genNone g) :=
  ⟨(ActsOn.setGenState s g x keep).trans (.genNone _ g), by
    simpa [GenJob.Calm] using ⟨starting, notLocked⟩⟩

/-- The supervision timer of a set, and what else of its record is neither its state nor its order. -/
theorem modGen {s t : State} {g : Fin 8} (h : s.Calms g t) (f : GenJob → GenJob)
    (order : (f (t.gen g)).order = (t.gen g).order) (state : (f (t.gen g)).state = (t.gen g).state) :
    s.Calms g (t.modGen g f) :=
  ⟨h.acts.trans (.modGen t g f order), by
    simpa only [GenJob.Calm, State.modGen_gen, order, state] using h.calm⟩

theorem startSup {s t : State} {g : Fin 8} (h : s.Calms g t) (sec : Nat) : s.Calms g (t.startSup g sec) :=
  h.modGen _ rfl rfl

theorem enterNotReady (s : State) (g : Fin 8) : s.Calms g (s.enterNotReady g) :=
  enteredNone s g .notReady false rfl nofun

theorem enterStandby (s : State) (g : Fin 8) : s.Calms g (s.enterStandby g) :=
  enteredNone s g .standby false rfl nofun

theorem enterStopping (s : State) (g : Fin 8) : s.Calms g (s.enterStopping g) :=
  (entered s g .stopping false .stop nofun rfl nofun).startSup _

theorem startCool {s t : State} {g : Fin 8} (h : s.Calms g t) : s.Calms g (t.startCool g) :=
  .ite (fun _ => .after h.acts (enterStopping t g)) fun _ => h.startSup _

theorem enterCooldown (s : State) (g : Fin 8) : s.Calms g (s.enterCooldown g) := by
  have cooling := entered s g .cooldown false .open nofun rfl nofun
  exact .ite (fun _ => cooling.startCool) fun _ => cooling

theorem enterHot (s : State) (g : Fin 8) : s.Calms g (s.enterHot g) := by
  have hot := enteredNone s g .hot false rfl nofun
  exact .ite (fun _ => .after hot.acts (enterCooldown _ g)) fun _ => hot.startSup _

theorem enterOnline (s : State) (g : Fin 8) : s.Calms g (s.enterOnline g) :=
  (enteredNone s g .online true rfl nofun).modGen _ rfl rfl

theorem tripEntry (s : State) (g : Fin 8) (v : GenValues) : s.Calms g (s.tripEntry g v) :=
  .ite (fun _ => enterCooldown s g) fun _ => enterNotReady s g

theorem stoppedEntry (s : State) (g : Fin 8) (v : GenValues) : s.Calms g (s.stoppedEntry g v) :=
  .ite (fun _ => enterStandby s g) fun _ => enterNotReady s g

theorem clearLockout (s : State) (g : Fin 8) : s.Calms g (s.clearLockout g) :=
  (enterNotReady s g).modGen _ rfl rfl

theorem endStart (s : State) (g : Fin 8) (h : (s.gen g).state.starting = true) : s.Calms g (s.endStart g) := by
  unfold State.endStart
  split
  · exact enterHot s g
  · exact enterHot s g
  · exact enterStopping s g
  · exact enterStopping s g
  next warm sync crank rest => cases e : (s.gen g).state <;> simp_all [GenState.starting]

theorem adoptGen (s : State) (g : Fin 8) : s.Calms g (s.adoptGen g) := by
  refine .after (.modGen s g (fun j => { j with sup := none, minRun := .stopped, mark := false }) rfl) ?_
  unfold State.adoptGen
  dsimp only
  split
  next => exact enterNotReady _ g
  next v _ =>
    split
    · exact enterNotReady _ g
    · exact (enteredNone _ g .online false rfl nofun).modGen _ rfl rfl
    · exact enterCooldown _ g
    · exact enterStopping _ g
    · exact .ite (fun _ => enterStandby _ g) fun _ => enterNotReady _ g
    · exact enterNotReady _ g

end State.Calms
end Sys2Proof.Machine
end

section
/-! SUPPORT. The moves of the curtailment allocator (chapter 4) and of the shedding unit (chapter 6). -/

namespace Sys2Proof.Machine

/-! ## A record left as it is -/

theorem upd_self {α : Type} {n : Nat} (v : Vector α n) (i : Fin n) (f : α → α) (h : f v[i] = v[i]) :
    upd v i f = v := by
  unfold upd
  rw [h]
  exact Vector.set_getElem_self i.isLt

theorem State.modGen_self {s : State} {g : Fin 8} {f : GenJob → GenJob} (h : f (s.gen g) = s.gen g) :
    s.modGen g f = s := by
  unfold State.modGen
  rw [upd_self s.seq.jobs g f h]

theorem State.modPv_self {s : State} {b : Fin 16} {f : PvJob → PvJob} (h : f (s.pv b) = s.pv b) :
    s.modPv b f = s := by
  unfold State.modPv
  rw [upd_self s.cur.jobs b f h]

/-! ## The curtailment allocator -/

namespace State.ActsOn

theorem pvPlaceFor (s : State) (b : Fin 16) (f : PvJob → PvJob) (code : OrderCode) (tag : Byte) (cap : Nat)
    (cls : OrderClass) : s.ActsOn (some (.pv b)) ((s.modPv b f).placeFor (.pv b) code tag cap cls) :=
  (modPv s b f).trans (placeFor _ _ _ _ _ _ nofun)

theorem pvNone (s : State) (b : Fin 16) : s.ActsOn (some (.pv b)) (s.pvNone b) :=
  (modPv s b _).trans (emptyFor _ _ _)

theorem pvOrder (s : State) (b : Fin 16) (code : OrderCode) (cap : Option Nat) (cls : OrderClass) :
    s.ActsOn (some (.pv b)) (s.pvOrder b code cap cls) := pvPlaceFor s b _ code _ _ cls

theorem pvPermit (s : State) (b : Fin 16) : s.ActsOn (some (.pv b)) (s.pvPermit b) :=
  (modPv s b _).trans (pvOrder _ b _ _ _)

theorem pvConnected (s : State) (b : Fin 16) (connected : Bool) :
    s.ActsOn (some (.pv b)) (s.pvConnected b connected) := by
  unfold State.pvConnected
  split
  · exact (modPv s b _).trans (modPv _ b _)
  · exact (modPv s b _).trans (pvNone _ b)
  · exact (modPv s b _).trans (pvNone _ b)
  · exact refl s _

theorem pvLatched (s : State) (b : Fin 16) (v : PvValues) : s.ActsOn (some (.pv b)) (s.pvLatched b v) :=
  .ite (fun _ => pvPermit s b) fun _ => refl s _

theorem pvEcho (s : State) (b : Fin 16) (v : PvValues) : s.ActsOn (some (.pv b)) (s.pvEcho b v) :=
  .ite (fun _ => refl s _) fun _ => .ite (fun _ => modPv s b _) fun _ => .ite (fun _ => refl s _) fun _ =>
    .ite (fun _ => .ite (fun _ => refl s _) fun _ => pvPlaceFor s b _ _ _ _ _)
      fun _ => (modPv s b _).trans (raise _ _ _)

theorem curTap (s : State) (b : Fin 16) : s.ActsOn (some (.pv b)) (s.curTap b) := by
  unfold State.curTap
  split
  · exact refl s _
  next v _ =>
    have connected : s.ActsOn (some (.pv b)) (if s.bs.island == .survey then s else s.pvConnected b v.connected) :=
      .ite (fun _ => refl s _) fun _ => pvConnected s b v.connected
    exact (connected.trans (pvLatched _ b v)).trans (pvEcho _ b v)

end State.ActsOn

namespace State.Moves

theorem of_pv {s t : State} {b : Fin 16} (used : s.InUse (.pv b)) (h : s.ActsOn (some (.pv b)) t) : s.Moves t :=
  of_unit (fun _ => UnitRef.noConfusion) used h

/-- A change of a block's record that leaves the values of reset where the block is not configured. -/
theorem modPv (s : State) (b : Fin 16) (f : PvJob → PvJob)
    (h : (s.pvCfg b).configured = false → f PvJob.reset = PvJob.reset) : s.Moves (s.modPv b f) := by
  by_cases used : s.InUse (.pv b)
  · exact of_pv used (.modPv s b f)
  · obtain ⟨off, rest⟩ := not_or.mp used
    have rest : s.pv b = PvJob.reset := Classical.not_not.mp rest
    rw [State.modPv_self (rest ▸ h (Bool.not_eq_true _ ▸ off))]
    exact refl s

theorem curTap (s : State) (b : Fin 16) (used : s.InUse (.pv b)) : s.Moves (s.curTap b) :=
  of_pv used (.curTap s b)

theorem pvClearDown (s : State) : s.Moves s.pvClearDown :=
  forEach _ (fun b t => .ite (fun configured => of_pv (.inl configured)
    ((ActsOn.modPv t b _).trans (.pvOrder _ b _ _ _))) fun _ => refl t) pvBlocks s

theorem pvPermitRequest (s : State) (b : Fin 16) (used : s.InUse (.pv b)) : s.Moves (s.pvPermitRequest b) :=
  .ite (fun _ => of_pv used (.pvPermit s b)) fun _ => refl s

theorem pvAdopt (s : State) : s.Moves s.pvAdopt :=
  forEach _ (fun b t => .ite (fun configured => of_pv (.inl configured)
    ((ActsOn.modPv t b _).trans (.pvNone _ b))) fun _ => refl t) pvBlocks s

theorem recordAllocation (s : State) (f : Fractions) (a : Int) : s.Moves (s.recordAllocation f a) := by
  have noted (t : State) (fractions : Vector Nat 4) (sum u : Int) :
      t.Moves { t with cur := { t.cur with fractions := fractions, sum := sum, u := u } } := quiet rfl
  unfold State.recordAllocation
  dsimp only
  refine (forEach_from _ pvBlocks fun b _ t before => modPv t b _ fun off => ?_).trans (noted _ _ _ _)
  have off : (s.pvCfg b).configured = false := by
    simpa only [State.pvCfg, before.act] using off
  simp [State.inScmd, off, PvJob.reset]

theorem allocate (s : State) (xCmd a : Int) : s.Moves (s.allocate xCmd a) := by
  refine .trans (recordAllocation s (s.rankFractions xCmd a) a) (.ite (fun _ => refl _) fun _ => ?_)
  refine forEach_from _ pvBlocks fun b _ t before => .ite (fun member => ?_) fun _ => refl t
  have configured : (s.pvCfg b).configured = true := ((s.inScmd_iff b).mp member).1
  have act : t.act = s.act := before.act.trans (recordAllocation s _ a).act
  exact of_pv (.inl (act ▸ configured)) (.ite (fun _ => .pvOrder t b _ _ _) fun _ => .refl t _)

theorem sourceLossRelease (s : State) : s.Moves s.sourceLossRelease := by
  have release (t : State) (b : Fin 16) : t.Moves
      (if (t.pvCfg b).configured && (t.pv b).state == .on then t.uncap b else t) :=
    .ite (fun on => of_pv (.inl (Bool.and_eq_true_iff.mp on).1)
      (.ite (fun _ => .refl t _) fun _ => .pvOrder t b _ _ _)) fun _ => refl t
  have released : s.Moves (if s.mode.mode == .commissioning then s else Machine.forEach pvBlocks
      (fun b s => if (s.pvCfg b).configured && (s.pv b).state == .on then s.uncap b else s) s) :=
    .ite (fun _ => refl s) fun _ => forEach _ (fun b t => release t b) pvBlocks s
  exact released.trans (quiet rfl)

end State.Moves

/-! ## The shedding unit -/

namespace State.ActsOn

theorem fdrPlaceFor (s : State) (i : Fin 32) (f : FdrJob → FdrJob) (code : OrderCode) (tag : Byte) (cap : Nat)
    (cls : OrderClass) : s.ActsOn (some (.feeder i)) ((s.modFdr i f).placeFor (.feeder i) code tag cap cls) :=
  (modFdr s i f).trans (placeFor _ _ _ _ _ _ fun _ => UnitRef.noConfusion)

theorem fdrNone (s : State) (i : Fin 32) : s.ActsOn (some (.feeder i)) (s.fdrNone i) :=
  (modFdr s i _).trans (emptyFor _ _ _)

theorem fdrOrder (s : State) (i : Fin 32) (code : OrderCode) (cls : OrderClass) :
    s.ActsOn (some (.feeder i)) (s.fdrOrder i code cls) := fdrPlaceFor s i _ code _ 0 cls

theorem setFdrState (s : State) (i : Fin 32) (x : FdrState) : s.ActsOn (some (.feeder i)) (s.setFdrState i x) :=
  modFdr s i _

theorem stopConfirm (s : State) (i : Fin 32) : s.ActsOn (some (.feeder i)) (s.stopConfirm i) := modFdr s i _

theorem startConfirm (s : State) (i : Fin 32) : s.ActsOn (some (.feeder i)) (s.startConfirm i) := modFdr s i _

/-- A feeder that takes a state and stands ordered nothing, its confirm timer stopped. -/
theorem settle (s : State) (i : Fin 32) (x : FdrState) :
    s.ActsOn (some (.feeder i)) (((s.setFdrState i x).stopConfirm i).fdrNone i) :=
  ((setFdrState s i x).trans (stopConfirm _ i)).trans (fdrNone _ i)

theorem unstack (s : State) (i : Fin 32) (w : Option UnitRef) : s.ActsOn w (s.unstack i) :=
  stack s _ (fun _ he => (List.mem_filter.mp he).1) w

theorem takeFeeder (s : State) (i : Fin 32) (reason : ShedReason) :
    s.ActsOn (some (.feeder i)) (s.takeFeeder i reason) := by
  refine .trans (((setFdrState s i .shedPending).trans (fdrOrder _ i .open .urgent)).trans (startConfirm _ i)) ?_
  refine feeder rfl rfl (fun _ _ => rfl) fun k hk stacked => ?_
  exact (List.mem_cons.mp stacked).resolve_left hk

theorem externalClose (s : State) (i : Fin 32) : s.ActsOn (some (.feeder i)) (s.externalClose i) :=
  ((setFdrState s i _).trans (fdrNone _ i)).trans (raise _ _ _)

theorem fdrShowsOpen (s : State) (i : Fin 32) : s.ActsOn (some (.feeder i)) (s.fdrShowsOpen i) := by
  unfold State.fdrShowsOpen
  split
  · exact setFdrState s i _
  · exact (setFdrState s i _).trans (stopConfirm _ i)
  · exact modFdr s i _
  · exact modFdr s i _
  · exact setFdrState s i _
  · exact refl s _

theorem fdrShowsClosed (s : State) (i : Fin 32) : s.ActsOn (some (.feeder i)) (s.fdrShowsClosed i) := by
  unfold State.fdrShowsClosed
  split
  · exact setFdrState s i _
  · exact (unstack s i _).trans (externalClose _ i)
  · exact (((setFdrState s i _).trans (stopConfirm _ i)).trans (unstack _ i _)).trans (fdrNone _ i)
  · exact .ite (fun _ => externalClose s i) fun _ => refl s _
  · exact settle s i _
  · exact (setFdrState s i _).trans (fdrNone _ i)
  · exact refl s _

theorem fdrEcho (s : State) (i : Fin 32) (v : FdrValues) : s.ActsOn (some (.feeder i)) (s.fdrEcho i v) :=
  .ite (fun _ => refl s _) fun _ => .ite (fun _ => modFdr s i _) fun _ => .ite (fun _ => refl s _) fun _ =>
    .ite (fun _ => .ite (fun _ => refl s _) fun _ => fdrPlaceFor s i _ _ _ _ _)
      fun _ => (modFdr s i _).trans (raise _ _ _)

theorem shedFdrTap (s : State) (i : Fin 32) : s.ActsOn (some (.feeder i)) (s.shedFdrTap i) := by
  unfold State.shedFdrTap
  split
  · exact refl s _
  next v _ =>
    refine .trans (.ite (fun _ => refl s _) fun _ => ?_) (fdrEcho _ i v)
    split
    · exact fdrShowsOpen s i
    · exact fdrShowsClosed s i

theorem stick (s : State) (i : Fin 32) : s.ActsOn (some (.feeder i)) (s.stick i) :=
  (settle s i .stuck).trans (raise _ _ _)

theorem holdOpen (s : State) (i : Fin 32) : s.ActsOn (some (.feeder i)) (s.holdOpen i) :=
  (((setFdrState s i .heldOpen).trans (stopConfirm _ i)).trans (fdrOrder _ i .open .urgent)).trans (modFdr _ i _)

end State.ActsOn

theorem State.inUse_of_fdr {s : State} {i : Fin 32} (h : s.fdr i ≠ FdrJob.reset) : s.InUse (.feeder i) :=
  .inr fun rest => h rest.1

theorem State.inUse_of_fdrState {s : State} {i : Fin 32} (h : (s.fdr i).state ≠ .openOther) :
    s.InUse (.feeder i) := State.inUse_of_fdr fun rest => h (congrArg FdrJob.state rest)

namespace State.Moves

theorem of_feeder {s t : State} {i : Fin 32} (used : s.InUse (.feeder i)) (h : s.ActsOn (some (.feeder i)) t) :
    s.Moves t := of_unit (fun _ => UnitRef.noConfusion) used h

theorem endWalk (s : State) (reason : ShedReason) (short took : Bool) : s.Moves (s.endWalk reason short took) :=
  trans (ite (fun _ => raise s .shedShort) fun _ => refl s) (ite (fun _ => raise _ _) fun _ => refl _)

/-- A walk takes feeders that are CLOSED, so in use (R122). -/
theorem walk (q : Int) (reason : ShedReason) (is : List (Fin 32)) (sum : Int) (took : Bool) (s : State) :
    s.Moves (walk q reason is sum took s) := by
  induction is generalizing sum took s with
  | nil => exact endWalk s reason _ took
  | cons i is ih =>
    refine ite (fun _ => endWalk s reason _ took) fun _ => ite (fun takes => ?_) fun _ => ih _ _ _
    have closed : (s.fdr i).state = .closed := beq_iff_eq.mp (Bool.and_eq_true_iff.mp takes).1
    exact (of_feeder (inUse_of_fdrState (by simp [closed])) (.takeFeeder s i reason)).trans (ih _ _ _)

theorem demand (s : State) (q : Int) (reason : ShedReason) : s.Moves (s.demand q reason) := walk q reason _ 0 false s

theorem reducedDemand (s : State) (q : Int) (reason : ShedReason) : s.Moves (s.reducedDemand q reason) :=
  ite (fun _ => refl s) fun _ => demand s _ reason

theorem fireStage (s : State) (n : Fin 6) : s.Moves (s.fireStage n) := by
  refine .trans (t := { s with shed := { s.shed with stages := put s.shed.stages n ⟨.fired, none⟩ } }) (quiet rfl) ?_
  exact (raise _ _).trans (ite (fun _ => refl _) fun _ => demand _ _ _)

theorem judgeRecovery (s : State) (d : Int) : s.Moves (s.judgeRecovery d) := by
  refine ite (fun _ => refl s) fun _ => ite (fun _ => ?_) fun _ => quiet rfl
  split
  · exact refl s
  · exact ite (fun _ => quiet rfl) fun _ => quiet rfl

theorem judgeDwell (s : State) (d : Int) : s.Moves (s.judgeDwell d) :=
  ite (fun _ => ite (fun _ => quiet rfl) fun _ => refl s) fun _ => quiet rfl

theorem judgeRestore (s : State) : s.Moves s.judgeRestore := by
  unfold State.judgeRestore
  split
  · exact refl s
  next e _ _ =>
    refine ite (fun may => ?_) fun _ => refl s
    have shed : (s.fdr e.feeder).state = .shed := by
      simp only [State.mayRestore, Bool.and_eq_true, beq_iff_eq] at may
      obtain ⟨⟨⟨⟨⟨-, shed⟩, -⟩, -⟩, -⟩, -⟩ := may
      exact shed
    have used : s.InUse (.feeder e.feeder) := inUse_of_fdrState (by simp [shed])
    have ordered := ((ActsOn.setFdrState s e.feeder .restoring).trans (.fdrOrder _ _ .close .routine)).trans
      (.startConfirm _ _)
    exact (of_feeder used ordered).trans (quiet rfl)

theorem shedBusTap (s : State) (d : Int) : s.Moves (s.shedBusTap d) := by
  refine ite (fun _ => refl s) fun _ => ?_
  extract_lets t u v
  have judged : s.Moves t := quiet rfl
  have begun : t.Moves u := ite (fun _ => quiet rfl) fun _ => refl t
  have fired : u.Moves v := forEach _ (fun n x => ite (fun _ => fireStage x n) fun _ => refl x) stageNumbers u
  exact ((((judged.trans begun).trans fired).trans (judgeRecovery v d)).trans (judgeDwell _ d)).trans (judgeRestore _)

theorem reShed (s : State) (e : StackEntry) : s.Moves (s.reShed e) := by
  have lowered : s.Moves (if s.shed.ufActive then
      { s with shed := { s.shed with shedEvent := s.shed.shedEvent - e.load } } else s) :=
    ite (fun _ => quiet rfl) fun _ => refl s
  exact lowered.trans (demand _ _ _)

theorem confirmExpiry (s : State) (i : Fin 32) (used : s.InUse (.feeder i)) : s.Moves (s.confirmExpiry i) := by
  unfold State.confirmExpiry
  split
  · split
    · exact of_feeder used (.stick s i)
    · exact (of_feeder used ((ActsOn.unstack s i _).trans (.stick _ i))).trans (reShed _ _)
  · exact of_feeder used ((ActsOn.unstack s i _).trans (.stick _ i))
  · exact of_feeder used (.stick s i)
  · exact of_feeder used (.stopConfirm s i)

theorem withdrawClose (s : State) (i : Fin 32) : s.Moves (s.withdrawClose i) := by
  refine ite (fun _ => refl s) fun stands => ?_
  have close : (s.fdr i).order = .close := by
    simp only [Bool.or_eq_true, bne_iff_ne, ne_eq, not_or, not_not] at stands
    exact stands.1
  have used : s.InUse (.feeder i) := inUse_of_fdr fun rest => by simp [rest, FdrJob.reset] at close
  split
  · exact of_feeder used (.settle s i .shed)
  · exact of_feeder used ((ActsOn.stopConfirm s i).trans (.fdrNone _ i))
  all_goals exact refl s

theorem withdraw (s : State) (codes : List OrderCode) : s.Moves (s.withdraw codes) := of_aside (.withdraw s codes)

theorem shedEnterCommissioning (s : State) : s.Moves s.shedEnterCommissioning :=
  (withdraw s _).trans (forEach _ (fun i t => withdrawClose t i) feeders _)

/-- Discarding an entry takes no feeder off the stack. -/
theorem discardEntry_stack (s : State) (e : StackEntry) : (s.discardEntry e).shed.stack = s.shed.stack :=
  congrArg (·.2.2.1.stack) (State.emptyFor_outsideSeq _ _)

/-- The feeders of the stack are in use, one after the other as their entries are discarded (R128). -/
theorem emptyStack (s : State) : s.Moves s.emptyStack := by
  have discard (es : List StackEntry) : ∀ t : State, (∀ e ∈ es, e ∈ t.shed.stack) →
      t.Moves (Machine.forEach es (fun e s => s.discardEntry e) t) := by
    unfold Machine.forEach
    induction es with
    | nil => exact fun t _ => refl t
    | cons e es ih =>
      intro t stacked
      obtain ⟨first, later⟩ := List.forall_mem_cons.mp stacked
      have used : t.InUse (.feeder e.feeder) := .inr fun rest => rest.2 (List.mem_map_of_mem first)
      refine (of_feeder used (.settle t e.feeder _)).trans (ih (t.discardEntry e) ?_)
      rw [discardEntry_stack]
      exact later
  exact (discard s.shed.stack s fun _ => id).trans (of_aside (.stack _ [] (by simp) none))

theorem shedClearDown (s : State) : s.Moves s.shedClearDown :=
  (emptyStack s).trans (forEach _ (fun i t => ite (fun configured => of_feeder (.inl configured) (.holdOpen t i))
    fun _ => refl t) feeders _)

theorem shedSettle (s : State) : s.Moves s.shedSettle := by
  refine forEach _ (fun i t => ite (fun held => ?_) fun _ => refl t) feeders s
  simp only [Bool.and_eq_true, beq_iff_eq] at held
  exact of_feeder (inUse_of_fdrState (by simp [held.1.1]))
    (((ActsOn.setFdrState t i .stuck).trans (.fdrNone _ i)).trans (.raise _ _ _))

theorem shedStepClose (s : State) (is : List (Fin 32)) : s.Moves (s.shedStepClose is) := by
  refine forEach _ (fun i t => ite (fun held => ?_) fun _ => refl t) is s
  exact of_feeder (inUse_of_fdrState (by simp [beq_iff_eq.mp held]))
    ((ActsOn.fdrOrder t i .close .routine).trans (.startConfirm _ i))

theorem shedRelease (s : State) : s.Moves s.shedRelease := by
  refine forEach _ (fun i t => ite (fun held => ?_) fun _ => refl t) feeders s
  exact of_feeder (inUse_of_fdrState (by simp [beq_iff_eq.mp held])) (.settle t i .openOther)

theorem shedAdopt (s : State) : s.Moves s.shedAdopt := by
  refine (emptyStack s).trans (forEach _ (fun i t => ite (fun adopts => ?_) fun _ => refl t) feeders _)
  exact of_feeder (.inl (Bool.and_eq_true_iff.mp adopts).1) (.settle t i _)

end State.Moves
end Sys2Proof.Machine
end

section
/-! SUPPORT. The moves of the set sequencer (chapter 5). -/

namespace Sys2Proof.Machine

/-! ## The set sequencer -/

/-- A start slot is free (R82, R83). -/
def State.HasRoom (s : State) : Prop := s.startCount < s.act.parallelStarts

@[simp] theorem State.enterCranking_state (s : State) (g : Fin 8) (attempts : Nat) :
    ((s.enterCranking g attempts).gen g).state = .cranking := by simp [State.enterCranking]

@[simp] theorem State.enterSyncing_state (s : State) (g : Fin 8) (dead : Bool) :
    ((s.enterSyncing g dead).gen g).state = .syncing := by simp [State.enterSyncing]

theorem GenState.starting_ne {x y : GenState} (hx : x.starting = true) (hy : y.starting = false) : x ≠ y :=
  fun e => by rw [e, hy] at hx; cases hx

namespace State.Turns

/-- A set that is left where it is, and not ordered START. -/
theorem of_same_state {s t : State} {g : Fin 8} (state : (t.gen g).state = (s.gen g).state)
    (order : (t.gen g).order = .start → (s.gen g).order = .start) : s.Turns g t :=
  ⟨fun law e => state.trans (law (order e)), fun e => .inl (state ▸ e), fun e => .inl (state ▸ e)⟩

/-- A set that keeps a start slot, or takes a free one. -/
theorem of_starting {s t : State} {g : Fin 8} (state : (t.gen g).state.starting = true)
    (order : (t.gen g).order = .start → (t.gen g).state = .cranking)
    (room : (s.gen g).state.starting = true ∨ s.HasRoom) : s.Turns g t :=
  ⟨fun _ => order, fun _ => room, fun e => absurd e (GenState.starting_ne state rfl)⟩

end State.Turns

/-- A source loss leaves the sets (R96). -/
theorem State.sourceLoss_gen (s : State) (g : Fin 8) (load : Nat) (k : Fin 8) :
    (s.sourceLoss g load).gen k = s.gen k := by
  have gen_of_seq {t u : State} (h : t.seq = u.seq) : t.gen k = u.gen k := by simp only [State.gen, h]
  have released : s.sourceLossRelease.gen k = s.gen k :=
    gen_of_seq (congrArg (·.1) s.sourceLossRelease_outsideCurtail)
  have shed (t : State) (q : Int) : (t.reducedDemand q .sourceLoss).gen k = t.gen k :=
    gen_of_seq (congrArg (·.2.2.1) (t.reducedDemand_outsideShed q .sourceLoss))
  unfold State.sourceLoss
  extract_lets t q
  split
  · rw [State.raise_gen, shed, released]
  · exact released

namespace State.Move

/-- A change of a set's record that is neither of its state nor of its order. -/
theorem modGen (s : State) (g : Fin 8) (f : GenJob → GenJob) (order : (f (s.gen g)).order = (s.gen g).order)
    (state : (f (s.gen g)).state = (s.gen g).state) (used : s.InUse (.genset g)) :
    s.Move (some (.genset g)) (s.modGen g f) :=
  .set used (.modGen s g f order) (.of_same_state (by simpa using state) (by simp [order]))

/-- A set that leaves another state than CRANKING, in which alone it can stand ordered START, and keeps its order. -/
theorem setGenState (s : State) (g : Fin 8) (x : GenState) (keep : Bool) (crank : (s.gen g).state ≠ .cranking)
    (starting : x.starting = false) (notLocked : x ≠ .lockout) (used : s.InUse (.genset g)) :
    s.Move (some (.genset g)) (s.setGenState g x keep) := by
  refine .set used (.setGenState s g x keep) ⟨fun law e => ?_, fun e => ?_, fun e => ?_⟩
  · exact absurd (law (by simpa using e)) crank
  · rw [State.setGenState_state, starting] at e
    cases e
  · exact absurd (by simpa using e) notLocked

end State.Move

/-- The freshness event that makes a set LOST takes it off STANDBY, or to UNSEEN (R81, R97). -/
theorem State.MovesOn.genGoesLost (s : State) (g : Fin 8) : s.MovesOn (.genset g) (s.genGoesLost g) := by
  have unseen (before : Option GenState) (crank : (s.gen g).state ≠ .cranking) (used : s.InUse (.genset g)) :
      s.MovesOn (.genset g) ((s.setGenState g .unseen false).modGen g fun j => { j with before := before }) :=
    (of_move (.setGenState s g .unseen false crank rfl nofun used)).trans
      (of_move (.modGen _ g _ rfl rfl (State.inUse_of_state (by simp))))
  unfold State.genGoesLost
  split
  next standby => exact of_move ((Calms.enterNotReady s g).move (State.inUse_of_state (by simp [standby])))
  next online => exact unseen _ (by simp [online]) (State.inUse_of_state (by simp [online]))
  next unloading => exact unseen _ (by simp [unloading]) (State.inUse_of_state (by simp [unloading]))
  next => exact refl s _

namespace State.Moves

/-- A change of a set's record that is neither of its state nor of its order, and leaves the values of reset. -/
theorem modGen (s : State) (g : Fin 8) (f : GenJob → GenJob) (order : (f (s.gen g)).order = (s.gen g).order)
    (state : (f (s.gen g)).state = (s.gen g).state) (rest : s.InUse (.genset g) ∨ f (s.gen g) = s.gen g) :
    s.Moves (s.modGen g f) := by
  obtain used | same := rest
  · exact of_move (.modGen s g f order state used)
  · rw [State.modGen_self same]
    exact refl s

theorem genNone (s : State) (g : Fin 8) (used : s.InUse (.genset g)) : s.Moves (s.genNone g) :=
  of_set used (.genNone s g) (.of_same_state (by simp) (by simp))

theorem genNewOrder (s : State) (g : Fin 8) {code : OrderCode} (cls : OrderClass) (h : code ≠ .start)
    (used : s.InUse (.genset g)) : s.Moves (s.genNewOrder g code cls) :=
  of_set used (.genNewOrder s g code cls) (.of_same_state (by simp) (by simp [h]))

theorem genOrder (s : State) (g : Fin 8) {code : OrderCode} (h : code ≠ .start) (used : s.InUse (.genset g)) :
    s.Moves (s.genOrder g code) :=
  of_set used (.genOrder s g code) (.of_same_state (by simp) (by simp [h]))

theorem stopSup (s : State) (g : Fin 8) (used : s.InUse (.genset g)) : s.Moves (s.stopSup g) :=
  modGen s g _ rfl rfl (.inl used)

theorem startSup (s : State) (g : Fin 8) (sec : Nat) (used : s.InUse (.genset g)) : s.Moves (s.startSup g sec) :=
  modGen s g _ rfl rfl (.inl used)

/-- A starting state entered with a standing order. -/
theorem enterStarting (s : State) (g : Fin 8) (x : GenState) (keep : Bool) (code : OrderCode) (sec : Nat)
    (starting : x.starting = true) (order : code = .start → x = .cranking) (used : s.InUse (.genset g))
    (room : (s.gen g).state.starting = true ∨ s.HasRoom) :
    s.Moves (((s.setGenState g x keep).genOrder g code).startSup g sec) :=
  of_set used (((ActsOn.setGenState s g x keep).trans (.genOrder _ g code)).trans (.startSup _ g sec))
    (.of_starting (by simpa using starting) (by simpa using order) room)

theorem enterSyncing (s : State) (g : Fin 8) (dead : Bool) (used : s.InUse (.genset g))
    (room : (s.gen g).state.starting = true ∨ s.HasRoom) : s.Moves (s.enterSyncing g dead) :=
  enterStarting s g .syncing true _ _ rfl (by cases dead <;> simp) used room

theorem enterResting (s : State) (g : Fin 8) (used : s.InUse (.genset g))
    (room : (s.gen g).state.starting = true ∨ s.HasRoom) : s.Moves (s.enterResting g) :=
  enterStarting s g .resting false .stop _ rfl nofun used room

theorem enterCranking (s : State) (g : Fin 8) (attempts : Nat) (used : s.InUse (.genset g))
    (room : (s.gen g).state.starting = true ∨ s.HasRoom) : s.Moves (s.enterCranking g attempts) := by
  have acts := (((ActsOn.setGenState s g .cranking false).trans (.modGen _ g
    (fun j => { j with attempts := attempts }) rfl)).trans (.genOrder _ g .start)).trans
      (.startSup _ g (s.genCfg g).crankTime)
  exact of_set used acts (.of_starting (by rw [State.enterCranking_state]; rfl)
    (fun _ => State.enterCranking_state s g attempts) room)

/-- Entry to LOCKOUT cuts an insertion of a START for the set, at the station that it has (R95). -/
theorem enterLockout (s : State) (g : Fin 8) {code : OrderCode} (h : code ≠ .start) (used : s.InUse (.genset g)) :
    s.Moves (s.enterLockout g code) := by
  unfold State.enterLockout
  extract_lets t
  have acts : s.ActsOn (some (.genset g)) t :=
    ((ActsOn.setGenState s g .lockout false).trans (.genOrder _ g code)).trans (.raise _ _ _)
  have order : (t.gen g).order = code := by simp [t]
  have state : (t.gen g).state = .lockout := by simp [t]
  have turns (u : State) (same : u.gen g = t.gen g) (silent : u.SendsNoStart g) : s.Turns g u := by
    refine ⟨fun _ e => absurd (same ▸ e) (order ▸ h), fun e => ?_, fun _ => .inr silent⟩
    rw [same, state] at e
    cases e
  clear_value t
  split
  next nowhere => exact of_set used acts (turns t rfl fun p a f x station => by simp [nowhere] at station)
  next a station =>
    refine of_set used (acts.trans (.cutOrders _ _ _)) (turns _ rfl fun p b f x here inserts e => ?_)
    cases Option.some.inj (station.symm.trans here)
    simpa [e] using (State.cutOrders_inserting inserts).2 a rfl

/-- A failed attempt of a set that holds a start slot or is HOT (R85). -/
theorem failedAttempt (s : State) (g : Fin 8) (h : (s.gen g).state.starting = true ∨ (s.gen g).state = .hot) :
    s.Moves (s.failedAttempt g) := by
  unfold State.failedAttempt
  extract_lets t
  have raised : s.Moves t := raise s .startFailed
  have h : (t.gen g).state.starting = true ∨ (t.gen g).state = .hot := by simpa [t] using h
  clear_value t
  have used : t.InUse (.genset g) := h.elim State.inUse_of_starting fun e => State.inUse_of_state (by simp [e])
  refine raised.trans (ite (fun _ => ite (fun _ => (Calms.enterStopping t g).moves used) fun noStop => ?_)
    fun _ => enterLockout t g nofun used)
  refine enterResting t g used (h.imp_right fun hot => ?_)
  simpa [hot, State.HasRoom] using noStop

theorem failedClose (s : State) (g : Fin 8) (h : (s.gen g).state ≠ .notReady) : s.Moves (s.failedClose g) := by
  unfold State.failedClose
  extract_lets t
  have used : t.InUse (.genset g) := State.inUse_of_state (by simpa [t] using h)
  exact (raise s .startFailed).trans
    (ite (fun _ => (Calms.enterCooldown t g).moves used) fun _ => enterLockout t g nofun used)

theorem warmDone (s : State) (g : Fin 8) (h : (s.gen g).state.starting = true) : s.Moves (s.warmDone g) := by
  have used := State.inUse_of_starting h
  exact ite (fun _ => failedAttempt s g (.inl h)) fun _ => ite (fun _ => enterSyncing s g false used (.inl h))
    fun _ => ite (fun _ => enterSyncing s g true used (.inl h)) fun _ => (Calms.enterHot s g).moves used

theorem enterWarmup (s : State) (g : Fin 8) (h : (s.gen g).state.starting = true) : s.Moves (s.enterWarmup g) := by
  unfold State.enterWarmup
  extract_lets t
  have warm : (t.gen g).state.starting = true := by simp [t, GenState.starting]
  have entered : s.Moves t := of_set (State.inUse_of_starting h)
    ((ActsOn.setGenState s g .warmup true).trans (.genNone _ g)) (.of_starting warm (by simp [t]) (.inl h))
  exact entered.trans (ite (fun _ => warmDone t g warm) fun _ => startSup t g _ (State.inUse_of_starting warm))

/-! ### Start and stop requests -/

theorem lowestRank_state {s : State} {p : Fin 8 → Bool} {x : GenState} {g : Fin 8}
    (h : s.lowestRank p x = some g) : (s.gen g).state = x := by
  have member := (List.mem_filter.mp (leastBy_mem _ _ _ h)).2
  simp only [Bool.and_eq_true, beq_iff_eq] at member
  exact member.1.2

theorem startChoice_state {s : State} {named : Option (Fin 8)} {g : Fin 8} (h : s.startChoice named = some g) :
    (s.gen g).state = .hot ∨ (s.gen g).state = .standby := by
  unfold State.startChoice at h
  split at h
  next k =>
    split at h
    next ready => cases h; simpa using ready
    next => cases h
  next =>
    unfold State.chooseStart at h
    split at h
    next k hot => cases h; exact .inl (lowestRank_state hot)
    next => exact .inr (lowestRank_state h)

theorem startRequest (s : State) (named : Option (Fin 8)) (dead : Bool) : s.Moves (s.startRequest named dead) := by
  refine ite (fun _ => refl s) fun _ => ite (fun _ => refl s) fun full => ?_
  have room : s.HasRoom := Nat.lt_of_not_le full
  split
  next => exact refl s
  next g chosen =>
    have used : s.InUse (.genset g) := State.inUse_of_state fun e => by
      obtain h | h := startChoice_state chosen <;> cases e.symm.trans h
    unfold State.takeStart
    extract_lets t
    have started : s.Moves t := ite (fun _ => enterSyncing s g dead used (.inr room))
      fun _ => enterCranking s g _ used (.inr room)
    have usedNow : t.InUse (.genset g) := State.inUse_of_state (by
      simp only [t, apply_ite (fun t : State => (t.gen g).state), State.enterSyncing_state,
        State.enterCranking_state]
      split <;> exact nofun)
    exact started.trans (ite (fun _ => modGen t g _ rfl rfl (.inl usedNow)) fun _ => refl t)

theorem stopSet (s : State) (g : Fin 8) : s.Moves (s.stopSet g) := by
  refine ite (fun online => ?_) fun _ => refl s
  have used : s.InUse (.genset g) := State.inUse_of_state (by simp [beq_iff_eq.mp online])
  exact ((Calms.entered s g .unloading false .unload nofun rfl nofun).startSup _).moves used

theorem roundComplete (s : State) (m : Int) : s.Moves (s.roundComplete m) := by
  refine forEach _ (fun g t => ite (fun _ => refl t) fun unloading => ?_) gensets s
  have used : t.InUse (.genset g) := State.inUse_of_state (by simp_all)
  split
  · exact ite (fun _ => (Calms.entered t g .online false .load nofun rfl nofun).moves used) fun _ => refl t
  · exact of_move (.setGenState t g .online false (by simp_all) rfl nofun used)
  · exact refl t

/-! ### Trips and reports -/

theorem sourceLoss (s : State) (g : Fin 8) (load : Nat) : s.Moves (s.sourceLoss g load) :=
  (sourceLossRelease s).trans (ite (fun _ => (reducedDemand _ _ _).trans (raise _ _)) fun _ => refl _)

theorem tripEntry (s : State) (g : Fin 8) (v : GenValues) (used : s.InUse (.genset g)) : s.Moves (s.tripEntry g v) :=
  (Calms.tripEntry s g v).moves used

theorem sourceLoss_tripEntry (s : State) (g : Fin 8) (v : GenValues) (load : Nat)
    (h : (s.gen g).state ≠ .notReady) : s.Moves ((s.sourceLoss g load).tripEntry g v) :=
  (sourceLoss s g load).trans (tripEntry _ g v (State.inUse_of_state (by rwa [State.sourceLoss_gen])))

theorem trip (s : State) (g : Fin 8) (v : GenValues) (h : (s.gen g).state ≠ .notReady) : s.Moves (s.trip g v) := by
  have used := State.inUse_of_state h
  exact ite (fun _ => ite (fun _ => (Calms.enterCooldown s g).moves used) fun _ => sourceLoss_tripEntry s g v _ h)
    fun _ => ite (fun _ => sourceLoss_tripEntry s g v _ h) fun _ => tripEntry s g v used

theorem unseenReturn (s : State) (g : Fin 8) (v : GenValues) (unseen : (s.gen g).state = .unseen) :
    s.Moves (s.unseenReturn g v) := by
  have used : s.InUse (.genset g) := State.inUse_of_state (by simp [unseen])
  have returns (x : GenState) (starting : x.starting = false) (notLocked : x ≠ .lockout) :
      s.Moves (s.setGenState g x false) :=
    of_move (.setGenState s g x false (by simp [unseen]) starting notLocked used)
  unfold State.unseenReturn
  split
  · exact tripEntry s g v used
  · refine ite (fun _ => (returns .unloading rfl nofun).trans (startSup _ g _ ?_)) fun _ => returns .online rfl nofun
    exact State.inUse_of_state (by simp)

theorem startCool (s : State) (g : Fin 8) (cooling : (s.gen g).state = .cooldown) : s.Moves (s.startCool g) := by
  have used : s.InUse (.genset g) := State.inUse_of_state (by simp [cooling])
  exact ite (fun _ => (Calms.enterStopping s g).moves used) fun _ => startSup s g _ used

theorem genTransition (s : State) (g : Fin 8) (v : GenValues) (used : s.InUse (.genset g)) :
    s.Moves (s.genTransition g v) := by
  have notReady : s.Moves (s.enterNotReady g) := (Calms.enterNotReady s g).moves used
  have cooldown : s.Moves (s.enterCooldown g) := (Calms.enterCooldown s g).moves used
  have stopped : s.Moves (s.stoppedEntry g v) := (Calms.stoppedEntry s g v).moves used
  unfold State.genTransition
  extract_lets fault
  split
  next => exact ite (fun _ => (Calms.enterStandby s g).moves used) fun _ => refl s
  next => exact ite (fun _ => notReady) fun _ => refl s
  next cranking =>
    have starting : (s.gen g).state.starting = true := by rw [cranking]; rfl
    exact ite (fun _ => enterWarmup s g starting) fun _ => ite (fun _ => failedAttempt s g (.inl starting))
      fun _ => ite (fun _ => notReady) fun _ => refl s
  next => exact ite (fun _ => notReady) fun _ => refl s
  next warm =>
    exact ite (fun _ => failedAttempt s g (.inl (by rw [warm]; rfl))) fun _ => ite (fun _ => notReady) fun _ => refl s
  next hot =>
    exact ite (fun _ => failedAttempt s g (.inr hot)) fun _ => ite (fun _ => notReady) fun _ => refl s
  next syncing =>
    exact ite (fun _ => (Calms.enterOnline s g).moves used) fun _ =>
      ite (fun _ => failedClose s g (by simp [syncing])) fun _ => ite (fun _ => notReady) fun _ => refl s
  next online =>
    exact ite (fun _ => ite (fun _ => cooldown) fun _ => refl s) fun _ =>
      ite (fun _ => trip s g v (by simp [online])) fun _ => refl s
  next unloading =>
    have usedNow : (s.genOrder g .open).InUse (.genset g) := State.inUse_of_state (by simp [unloading])
    exact ite (fun _ => ite (fun _ => cooldown) fun _ => refl s) fun _ =>
      ite (fun _ => trip s g v (by simp [unloading])) fun _ =>
        ite (fun _ => (genOrder s g (code := .open) nofun used).trans (stopSup _ g usedNow)) fun _ => refl s
  next cooling =>
    exact ite (fun _ => stopped) fun _ => ite (fun _ => notReady) fun _ =>
      ite (fun _ => startCool s g cooling) fun _ => refl s
  next => exact ite (fun _ => stopped) fun _ => ite (fun _ => notReady) fun _ => refl s
  next => exact ite (fun _ => genOrder s g nofun used) fun _ => refl s
  next unseen => exact unseenReturn s g v unseen

theorem unansweredEffect (s : State) (g : Fin 8) : s.Moves (s.unansweredEffect g) := by
  unfold State.unansweredEffect
  split
  next cranking => exact failedAttempt s g (.inl (by rw [cranking]; rfl))
  next warm => exact failedAttempt s g (.inl (by rw [warm]; rfl))
  next hot => exact failedAttempt s g (.inr hot)
  next syncing => exact failedClose s g (by simp [syncing])
  next online => exact genNone s g (State.inUse_of_state (by simp [online]))
  next unloading => exact genNone s g (State.inUse_of_state (by simp [unloading]))
  next resting => exact (Calms.enterNotReady s g).moves (State.inUse_of_state (by simp [resting]))
  next cooling => exact (Calms.enterNotReady s g).moves (State.inUse_of_state (by simp [cooling]))
  next stopping => exact (Calms.enterNotReady s g).moves (State.inUse_of_state (by simp [stopping]))
  all_goals exact refl s

/-- A resend places what the set stands ordered already (R103). -/
theorem genEcho (s : State) (g : Fin 8) (v : GenValues) : s.Moves (s.genEcho g v) := by
  refine ite (fun _ => refl s) fun stands => ?_
  have used : s.InUse (.genset g) := .inr fun rest => stands (by rw [rest]; rfl)
  refine ite (fun _ => modGen s g _ rfl rfl (.inl used)) fun _ => ite (fun _ => refl s) fun _ =>
    ite (fun _ => ite (fun _ => refl s) fun _ => ?_) fun _ => ?_
  · refine of_set used ((ActsOn.modGen s g _ rfl).trans (.placeFor _ _ _ _ _ _ ?_)) (.of_same_state ?_ ?_)
    · rintro k ⟨⟩
      simp
    · simp
    · simp
  · exact ((modGen s g _ rfl rfl (.inl used)).trans (raise _ _)).trans (unansweredEffect _ g)

theorem seqBusTap (s : State) : s.Moves s.seqBusTap := by
  refine ite (fun _ => forEach _ (fun g t => ite (fun syncing => ?_) fun _ => refl t) gensets s) fun _ => refl s
  exact genOrder t g nofun (State.inUse_of_state (by simp_all))

/-! ### Timers, modes, clear-down, adoption -/

theorem restDone (s : State) (g : Fin 8) (wanted : Bool) (resting : (s.gen g).state = .resting) :
    s.Moves (s.restDone g wanted) := by
  have starting : (s.gen g).state.starting = true := by rw [resting]; rfl
  have used := State.inUse_of_starting starting
  exact ite (fun _ => enterCranking s g _ used (.inl starting)) fun _ => (Calms.enterStandby s g).moves used

theorem unloadDone (s : State) (g : Fin 8) (unloading : (s.gen g).state = .unloading) : s.Moves (s.unloadDone g) := by
  have used : s.InUse (.genset g) := State.inUse_of_state (by simp [unloading])
  have usedNow : (s.stopSup g).InUse (.genset g) := State.inUse_of_state (by simp [State.stopSup, unloading])
  exact (stopSup s g used).trans (ite (fun _ => genOrder _ g nofun usedNow) fun _ => refl _)

theorem releaseLockouts (s : State) : s.Moves s.releaseLockouts := by
  refine forEach _ (fun g t => ite (fun locked => ?_) fun _ => refl t) gensets s
  exact (Calms.clearLockout t g).moves (State.inUse_of_state (by simp [beq_iff_eq.mp locked]))

theorem genClearDown (s : State) : s.Moves s.genClearDown := by
  refine forEach _ (fun g t => ite (fun _ => refl t) fun configured => ?_) gensets s
  have used : t.InUse (.genset g) := .inl (by simpa [State.genCfg, Bank.configured] using configured)
  exact ite (fun _ => genNewOrder t g _ nofun used) fun _ =>
    ite (fun _ => (Calms.enterHot t g).moves used) fun _ => refl t

/-- A mark is cleared: the values of reset bear none. -/
theorem clearMark (s : State) (g : Fin 8) : s.Moves (s.modGen g fun j => { j with mark := false }) := by
  refine modGen s g _ rfl rfl ?_
  by_cases rest : s.gen g = GenJob.reset
  · exact .inr (by rw [rest]; rfl)
  · exact .inl (.inr rest)

theorem genAbandon (s : State) : s.Moves s.genAbandon := by
  refine forEach _ (fun g t => ?_) gensets s
  extract_lets u
  have toHot : t.Moves u := ite (fun syncing => (Calms.enterHot t g).moves
    (State.inUse_of_state (by simp [beq_iff_eq.mp syncing]))) fun _ => refl t
  exact toHot.trans (ite (fun _ => refl u) fun _ => clearMark u g)

theorem genSettled (s : State) : s.Moves s.genSettled := by
  refine forEach _ (fun g t => ite (fun marked => ?_) fun _ => refl t) gensets s
  exact modGen t g _ rfl rfl (.inl (.inr fun rest => by rw [rest] at marked; cases marked))

theorem energizeFailure (s : State) : s.Moves s.energizeFailure := by
  refine forEach _ (fun g t => ite (fun online => ?_) fun _ => refl t) gensets s
  exact failedClose t g (by simp_all)

theorem genAdopt (s : State) : s.Moves s.genAdopt := by
  refine forEach _ (fun g t => ite (fun adopts => ?_) fun _ => refl t) gensets s
  exact (Calms.adoptGen t g).moves (.inl (Bool.and_eq_true_iff.mp adopts).1)

end State.Moves
end Sys2Proof.Machine
end

section
/-! SUPPORT. The moves of the black-start controller and the mode control (chapters 7 and 8). -/

namespace Sys2Proof.Machine

namespace State.Moves

/-! ## The black-start controller -/

theorem modBs (s : State) (f : BlackStart → BlackStart) : s.Moves (s.modBs f) := quiet rfl

theorem setIsland (s : State) (x : Island) : s.Moves (s.setIsland x) := (modBs s _).trans (raise _ _)

theorem endUf (s : State) : s.Moves s.endUf := quiet rfl

theorem enterAbandoned (s : State) : s.Moves s.enterAbandoned := by
  unfold State.enterAbandoned
  extract_lets t
  have acted : s.Moves t := (((setIsland s .abandoned).trans (raise _ .bsAbandoned)).trans (genAbandon _)).trans (endUf _)
  exact acted.trans (modBs t _)

theorem chooseFirstSource (s : State) : s.Moves s.chooseFirstSource := by
  refine ite (fun _ => refl s) fun _ => ?_
  split
  · exact refl s
  · exact startRequest s _ true

theorem enterFirstSource (s : State) : s.Moves s.enterFirstSource :=
  ((setIsland s .firstSource).trans (ite (fun _ => endUf _) fun _ => refl _)).trans
    (ite (fun _ => enterAbandoned _) fun _ => chooseFirstSource _)

theorem applyWaiting (s : State) : s.Moves s.applyWaiting :=
  ite (fun _ => enterFirstSource s) fun _ => refl s

theorem completeClearDown (s : State) : s.Moves s.completeClearDown :=
  (((modBs s _).trans (shedSettle _)).trans (modBs _ _)).trans (applyWaiting _)

theorem judgeSettled (s : State) : s.Moves s.judgeSettled :=
  ite (fun _ => completeClearDown s) fun _ => refl s

theorem orderClearDown (s : State) : s.Moves s.orderClearDown :=
  ((((modBs s _).trans (shedClearDown _)).trans (pvClearDown _)).trans (genClearDown _)).trans (judgeSettled _)

theorem enterBlackout (s : State) : s.Moves s.enterBlackout :=
  ((((setIsland s .blackout).trans (endUf _)).trans (emptyStack _)).trans (modBs _ _)).trans
    (ite (fun _ => modBs _ _) fun _ => orderClearDown _)

theorem busLost (s : State) : s.Moves s.busLost :=
  ite (fun _ => enterBlackout s) fun _ => enterAbandoned s

theorem judgeBlind (s : State) : s.Moves s.judgeBlind := ite (fun _ => busLost s) fun _ => refl s

theorem enterSurvey (s : State) : s.Moves s.enterSurvey := by
  unfold State.enterSurvey
  extract_lets t
  have ended : s.Moves t := (setIsland s .survey).trans (endUf _)
  exact ended.trans (modBs t _)

theorem adopt (s : State) : s.Moves s.adopt :=
  ((((genAdopt s).trans (shedAdopt _)).trans (pvAdopt _)).trans (setIsland _ .balancing)).trans (quiet rfl)

theorem judgeSurvey (s : State) (atExpiry : Bool) : s.Moves (s.judgeSurvey atExpiry) := by
  unfold State.judgeSurvey
  extract_lets noChange
  have kept : s.Moves noChange := ite (fun _ => enterAbandoned s) fun _ => refl s
  split
  · exact ite (fun _ => adopt s) fun _ => kept
  · exact ite (fun _ => adopt s) fun _ => kept
  · exact ite (fun _ => adopt s) fun _ => ite (fun _ => enterBlackout s) fun _ => kept

theorem surveyTap (s : State) (judging : Bool) : s.Moves (s.surveyTap judging) :=
  ite (fun _ => ite (fun _ => judgeSurvey s false) fun _ => refl s) fun _ =>
    ite (fun _ => (modBs s _).trans (judgeSurvey _ false)) fun _ => refl s

theorem enterEnergizing (s : State) : s.Moves s.enterEnergizing := by
  unfold State.enterEnergizing
  extract_lets t
  exact (setIsland s .energizing).trans (modBs t _)

theorem energizeFailed (s : State) : s.Moves s.energizeFailed :=
  (modBs s _).trans (ite (fun _ => enterAbandoned _) fun _ => enterFirstSource _)

theorem enterRestoring (s : State) : s.Moves s.enterRestoring := by
  unfold State.enterRestoring
  extract_lets t
  have settled : s.Moves t := (setIsland s .restoring).trans (genSettled _)
  exact settled.trans (modBs t _)

theorem endPvReturn (s : State) : s.Moves s.endPvReturn := (setIsland s .balancing).trans (shedRelease _)

/-- The next permit goes to a configured block (R153). -/
theorem permitNext (s : State) : s.Moves s.permitNext := by
  unfold State.permitNext
  split
  next b next =>
    extract_lets t u
    have member := (List.mem_filter.mp (leastBy_mem _ _ _ next)).2
    simp only [Bool.and_eq_true] at member
    have used : t.InUse (.pv b) := .inl member.1.1
    have pointed : s.Moves t := modBs s _
    have permitted : t.Moves u := pvPermitRequest t b used
    exact (pointed.trans permitted).trans (modBs u _)
  next => exact (modBs s _).trans (endPvReturn _)

theorem permitExpiry (s : State) : s.Moves s.permitExpiry := ite (fun _ => modBs s _) fun _ => permitNext s

theorem enterPvReturn (s : State) : s.Moves s.enterPvReturn := by
  have hold (t : State) : t.Moves t.startPvHold := ite (fun _ => permitExpiry t) fun _ => modBs t _
  have base (t : State) : t.Moves (t.setRampBase 0) := quiet rfl
  exact (((setIsland s .pvReturn).trans (base _)).trans (modBs _ _)).trans (hold _)

theorem shortStep (s : State) (n : Fin 16) : s.Moves (s.shortStep n) :=
  (modBs s _).trans (ite (fun _ => refl _) fun _ => ite (fun _ => refl _) fun _ =>
    ite (fun _ => startRequest _ none false) fun _ => (modBs _ _).trans (raise _ _))

theorem executeStep (s : State) (n : Fin 16) : s.Moves (s.executeStep n) := by
  unfold State.executeStep
  extract_lets t
  have closes : s.Moves t := shedStepClose s _
  exact closes.trans (modBs t _)

theorem judgeStep (s : State) : s.Moves s.judgeStep := by
  refine ite (fun _ => refl s) fun _ => ?_
  extract_lets t
  have judged : s.Moves t := modBs s _
  refine judged.trans ?_
  split
  · exact enterPvReturn t
  · exact ite (fun _ => refl t) fun _ => ite (fun _ => executeStep t _) fun _ => shortStep t _

theorem bsBusTap (s : State) : s.Moves s.bsBusTap := by
  unfold State.bsBusTap
  split
  · exact surveyTap s true
  · exact ite (fun _ => busLost s) fun _ => refl s
  · exact ite (fun _ => busLost s) fun _ => refl s
  · exact ite (fun _ => busLost s) fun _ => judgeStep s
  · exact ite (fun _ => enterRestoring s) fun _ => refl s
  · exact ite (fun _ => enterSurvey s) fun _ => refl s
  all_goals exact refl s

theorem onGenChange (s : State) (c : GenChange) : s.Moves (s.onGenChange c) := by
  refine ite (fun _ => refl s) fun _ => ?_
  extract_lets t
  have held : s.Moves t := ite (fun _ => modBs s _) fun _ => refl s
  clear_value t
  refine held.trans ?_
  have blind : t.Moves (if c.old.onLine && !c.new.onLine then t.judgeBlind else t) :=
    ite (fun _ => judgeBlind t) fun _ => refl t
  split
  · exact blind
  · exact blind
  · exact blind
  · exact ite (fun _ => enterEnergizing t) fun _ => ite (fun _ => enterAbandoned t) fun _ => chooseFirstSource t
  · exact ite (fun _ => energizeFailed t) fun _ => refl t
  all_goals exact refl t

theorem drain (s : State) : s.Moves s.drain := by
  have fuelled (n : Nat) : ∀ t : State, t.Moves (drainFuel n t) := by
    induction n with
    | zero => exact fun t => quiet rfl
    | succ n ih =>
      intro t
      unfold drainFuel
      split
      · exact refl t
      next c cs _ =>
        have taken : t.Moves { t with seq := { t.seq with changes := cs } } := quiet rfl
        exact (taken.trans (onGenChange _ c)).trans (ih _)
  exact fuelled 512 s

theorem limitDone (s : State) : s.Moves s.limitDone := by
  refine (modBs s fun b => { b with limit := none }).trans ?_
  dsimp only [State.limitDone]
  split
  · exact enterAbandoned _
  · exact enterAbandoned _
  · exact ite (fun _ => modBs _ _) fun _ => (energizeFailure _).trans (enterAbandoned _)
  all_goals exact refl _

theorem energizeDone (s : State) : s.Moves s.energizeDone :=
  (modBs s _).trans (ite (fun _ => (energizeFailure _).trans (energizeFailed _)) fun _ => refl _)

theorem surveyDone (s : State) : s.Moves s.surveyDone :=
  (modBs s _).trans (ite (fun _ => judgeSurvey _ true) fun _ => refl _)

theorem clearDownDone (s : State) : s.Moves s.clearDownDone :=
  (modBs s _).trans (ite (fun _ => completeClearDown _) fun _ => refl _)

theorem proceed (s : State) : s.Moves s.proceed := ite (fun _ => enterBlackout s) fun _ => enterFirstSource s

theorem trainProceed (s : State) : s.Moves s.trainProceed := ite (fun _ => proceed s) fun _ => refl s

theorem bsLeaveCommissioning (s : State) : s.Moves s.bsLeaveCommissioning :=
  ite (fun _ => orderClearDown s) fun _ => ite (fun _ => chooseFirstSource s) fun _ =>
    ite (fun _ => (modBs s _).trans (permitNext _)) fun _ => refl s

/-! ## Mode control -/

theorem modMode (s : State) (f : ModeControl → ModeControl) : s.Moves (s.modMode f) := quiet rfl

theorem handMode (s : State) (old : Mode) : s.Moves (s.handMode old) := by
  unfold State.handMode
  extract_lets new t u v
  have enters : s.Moves t := ite (fun _ => ((withdraw s _).trans (withdraw _ _)).trans (shedEnterCommissioning _))
    fun _ => refl s
  have leaves : t.Moves u := ite (fun _ => bsLeaveCommissioning t) fun _ => refl t
  have waits : u.Moves v := ite (fun _ => applyWaiting u) fun _ => refl u
  exact ((enters.trans leaves).trans waits).trans (drain v)

theorem applyMode (s : State) (m : Mode) (src : ModeSource) : s.Moves (s.applyMode m src) :=
  (modMode s _).trans (ite (fun _ => (raise _ _).trans (handMode _ _)) fun _ => refl _)

theorem returnToDirective (s : State) : s.Moves s.returnToDirective := (modMode s _).trans (applyMode _ _ _)

theorem trainDone (s : State) : s.Moves s.trainDone := by
  have selects (t : State) (m : Mode) : t.Moves (t.selectLine m) := (applyMode t m .line).trans (modMode _ _)
  have releases (t : State) : t.Moves t.releaseTrain :=
    ((returnToDirective t).trans (releaseLockouts _)).trans (drain _)
  exact (modMode s _).trans (ite (fun _ => selects _ _) fun _ => ite (fun _ => selects _ _) fun _ =>
    ite (fun _ => releases _) fun _ => ite (fun _ => (trainProceed _).trans (drain _)) fun _ => refl _)

theorem lineLow (s : State) : s.Moves s.lineLow :=
  ite (fun _ => refl s) fun _ => ite (fun _ => modMode s _) fun _ => modMode s _

theorem lineHigh (s : State) : s.Moves s.lineHigh :=
  ite (fun _ => refl s) fun _ => ite (fun _ => modMode s _) fun _ => ite (fun _ => modMode s _) fun _ => modMode s _

end State.Moves
end Sys2Proof.Machine
end

section
/-! SUPPORT. The moves of reports, rounds, directives, ports and expiries, and what one command can do (`exec_cases`). -/

namespace Sys2Proof.Machine

namespace State.Moves

/-! ## Reports and freshness -/

theorem drained {s t : State} (h : s.Moves t) : s.Moves t.drain := h.trans (drain t)

theorem tapRecord (s : State) (u : UnitRef) (p : List Byte) : s.Moves (s.tapRecord u p) := by
  cases u <;> exact quiet rfl

theorem handTap (s : State) (u : UnitRef) (configured : s.act.configured u = true) : s.Moves (s.handTap u) := by
  have survey (t : State) (judging : Bool) : t.Moves (if t.bs.island == .survey then t.surveyTap judging else t) :=
    ite (fun _ => surveyTap t judging) fun _ => refl t
  cases u with
  | genset g =>
    unfold State.handTap
    dsimp only
    split
    next => exact refl s
    next v _ =>
      have judged := (drained (genTransition s g v (.inl configured))).trans (genEcho _ g v)
      exact drained ((drained judged).trans (survey _ true))
  | pv b => exact drained ((of_pv (.inl configured) (.curTap s b)).trans (survey _ false))
  | feeder i =>
    refine drained ((of_feeder (.inl configured) (.shedFdrTap s i)).trans ?_)
    exact ite (fun _ => surveyTap _ false) fun _ => judgeSettled _
  | busmeter =>
    unfold State.handTap
    dsimp only
    split
    next => exact refl s
    next v _ => exact drained (((shedBusTap s v.dev).trans (seqBusTap _)).trans (bsBusTap _))

theorem reportUnit_configured {s : State} {src : Addr} {k : Byte} {u : UnitRef} (h : s.reportUnit src k = some u) :
    s.act.configured u = true := by
  unfold State.reportUnit at h
  split at h
  next => cases h
  next w mapped =>
    obtain ⟨-, same⟩ := Option.ite_none_right_eq_some.mp h
    exact Option.some.inj same ▸ Bank.configured_of_mapped mapped

theorem takeReport (s : State) (src : Addr) (k : Byte) (p : List Byte) : s.Moves (s.takeReport src k p) := by
  unfold State.takeReport
  split
  next => exact quiet rfl
  next u tapped =>
    have recorded := tapRecord s u p
    refine ite (fun _ => recorded.trans (handTap _ u ?_)) fun _ => quiet rfl
    rw [recorded.act]
    exact reportUnit_configured tapped

theorem recordLost (s : State) (u : UnitRef) : s.Moves (s.recordLost u) := by cases u <;> exact quiet rfl

theorem handLost (s : State) (u : UnitRef) : s.Moves (s.handLost u) := by
  cases u with
  | genset g => exact drained (MovesOn.genGoesLost s g).moves
  | pv b => exact refl s
  | feeder i => exact drained (judgeSettled s)
  | busmeter =>
    have lost : s.Moves s.shedBusLost := quiet rfl
    exact drained (lost.trans (judgeBlind _))

theorem lateDone (s : State) (u : UnitRef) : s.Moves (s.lateDone u) := by
  refine ite (fun _ => ?_) fun _ => refl s
  cases u <;> exact quiet rfl

/-! ## The balance round -/

theorem round (s : State) : s.Moves s.round := by
  refine ite (fun _ => ?_) fun _ => quiet rfl
  have figured : s.Moves { s with bal := s.roundBalance } := quiet rfl
  refine figured.trans ?_
  unfold State.computedRound State.handRound
  extract_lets f t u v w
  have rounded : ({ s with bal := s.roundBalance } : State).Moves t := (allocate _ _ _).trans (roundComplete _ _)
  have started : t.Moves u := ite (fun _ => startRequest t none false) fun _ => refl t
  have stopped : u.Moves v := by
    unfold v
    split
    · exact refl u
    · exact stopSet u _
  have shed : v.Moves w := by
    unfold w
    split
    · exact refl v
    · exact reducedDemand v _ _
  exact drained (((rounded.trans started).trans stopped).trans shed)

/-! ## Directives -/

/-- The directives that read leave all but the notice summary. -/
theorem doReadTable_state (s : State) (a : List Byte) : (s.doReadTable a).state = s := by
  simp only [State.doReadTable, apply_ite Carried.state, ite_self]

theorem doReadUnit_state (s : State) (a : List Byte) : (s.doReadUnit a).state = s := by
  unfold State.doReadUnit
  split
  · rfl
  · split <;> rfl

theorem doSetMode (s : State) (a : List Byte) : s.Moves (s.doSetMode a).state := by
  unfold State.doSetMode
  split
  next => exact refl s
  next m _ =>
    split
    · exact refl s
    · simp only [apply_ite Carried.state]
      exact ite (fun _ => refl s) fun _ => (modMode s _).trans (applyMode _ m.toMode .directive)

theorem doClearLockout (s : State) (a : List Byte) : s.Moves (s.doClearLockout a).state := by
  unfold State.doClearLockout
  split
  next => exact refl s
  next g _ =>
    simp only [apply_ite Carried.state]
    refine ite (fun _ => refl s) fun _ => ite (fun locked => ?_) fun _ => refl s
    exact drained ((Calms.clearLockout s g).moves (State.inUse_of_state (by simp [beq_iff_eq.mp locked])))

theorem doBlackStart (s : State) : s.Moves s.doBlackStart.state := by
  simp only [State.doBlackStart, apply_ite Carried.state]
  exact ite (fun _ => drained (proceed s)) fun _ => refl s

theorem doAbandon (s : State) : s.Moves s.doAbandon.state := by
  have abandoned := drained (enterAbandoned s)
  unfold State.doAbandon
  split <;> dsimp only
  iterate 3 exact abandoned
  all_goals exact refl s

theorem carryOut (s : State) (code : Byte) (a : List Byte) : s.Moves (s.carryOut code a).state := by
  unfold State.carryOut
  split
  · rw [doReadTable_state]; exact refl s
  · exact quiet rfl
  · exact quiet rfl
  · exact quiet rfl
  · exact quiet rfl
  · exact quiet rfl
  · rw [doReadUnit_state]; exact refl s
  · exact refl s
  · exact refl s
  · exact doSetMode s a
  · exact doClearLockout s a
  · exact doBlackStart s
  · exact doAbandon s
  · exact quiet rfl

theorem takeDirective (s : State) (src : Addr) (code token : Byte) (a : List Byte) :
    s.Moves (s.takeDirective src code token a) := by
  refine ite (fun _ => refl s) fun _ => ite (fun _ => quiet rfl) fun _ => ?_
  have judged : s.Moves (s.judgeDirective src code a).state := by
    unfold State.judgeDirective
    simp only [apply_ite Carried.state]
    exact ite (fun _ => refl s) fun _ => ite (fun _ => refl s) fun _ => ite (fun _ => refl s) fun _ => carryOut s code a
  have joined (t : State) (r : Reply) : t.Moves (t.join src code token r) := quiet rfl
  exact judged.trans (joined _ _)

end State.Moves

/-! ## The loop -/

namespace State.ActsOn

/-- A change of a port that begins no insertion. -/
theorem modPort (s : State) (p : Port) (f : PortState → PortState)
    (h : ∀ r g x, (f (s.port p)).tx = .inserting r g x → ∃ y, (s.port p).tx = .inserting r g y) :
    s.ActsOn none (s.modPort p f) := by
  refine outbound (by cases p <;> rfl) (fun a o ho => ⟨o, by rwa [State.modPort_slot] at ho, rfl⟩)
    fun q r g x hx => ?_
  by_cases e : q = p
  · subst e
    rw [State.modPort_port] at hx
    exact h r g x hx
  · have other : q = p.other := by cases p <;> cases q <;> simp_all [Port.other]
    rw [other, State.modPort_other] at hx
    exact ⟨x, other ▸ hx⟩

theorem modPort_of_tx (s : State) (p : Port) (f : PortState → PortState)
    (h : (f (s.port p)).tx = (s.port p).tx) : s.ActsOn none (s.modPort p f) :=
  modPort s p f fun _ _ x hx => ⟨x, h ▸ hx⟩

theorem mapMarks (s : State) (f : Marks → Marks) : s.ActsOn none (s.mapMarks f) := by
  refine outbound (by simp [State.act]) (fun a o ho => ?_) fun p _ _ x h => ⟨x, by rwa [State.mapMarks_port] at h⟩
  rw [State.mapMarks_slot] at ho
  obtain ⟨x, hx, rfl⟩ := Option.map_eq_some_iff.mp ho
  exact ⟨x, hx, rfl⟩

end State.ActsOn

theorem PortState.placeForward_inserting {x : PortState} {f g : Frame} {r : EntryRef} {y : Bool}
    (h : (x.placeForward f).tx = .inserting r g y) : x.tx = .inserting r g y := by
  unfold PortState.placeForward at h
  split at h
  · exact h
  · dsimp only at h
    split at h
    · exact absurd (PortState.startForward_inserting h) (PortState.abort_inserting _ _ _ _)
    · exact PortState.startForward_inserting (x := { x with buffer := x.buffer ++ [f] }) h

theorem PortState.forwarded_inserting {x : PortState} {g : Frame} {r : EntryRef} {y : Bool}
    (h : x.forwarded.tx = .inserting r g y) : x.tx = .inserting r g y := by
  unfold PortState.forwarded at h
  split at h
  · cases PortState.startForward_inserting h
  · exact h
  · exact h

namespace State.Moves

theorem portEntersUp (s : State) (p : Port) : s.Moves (s.portEntersUp p) := by
  unfold State.portEntersUp
  extract_lets t u
  have up : s.Moves t := of_aside (.modPort_of_tx s p _ rfl)
  have marks : t.Moves u := ite (fun _ => of_aside (.mapMarks t _)) fun _ => refl t
  exact (up.trans marks).trans (raise u _)

theorem losePort (s : State) (p : Port) : s.Moves (s.losePort p) :=
  ite (fun _ => of_aside (.modPort_of_tx s p _ rfl)) fun _ =>
    ((of_aside (.modPort_of_tx s p _ rfl)).trans (of_aside (.mapMarks _ _))).trans (raise _ _)

theorem windowDone (s : State) (p : Port) : s.Moves (s.windowDone p) := by
  unfold State.windowDone
  extract_lets old new t
  have judged : s.Moves t := of_aside (.modPort_of_tx s p _ rfl)
  exact judged.trans (ite (fun _ => refl t) fun _ => raise t _)

theorem intake (s : State) (f : Frame) : s.Moves (s.intake f) := by
  unfold State.intake
  split
  next h =>
    refine ite (fun _ => ?_) fun _ => refl s
    have counted : s.Moves (s.acceptSeq ⟨(lowSix f.src).val, h⟩ f.seq) := quiet rfl
    refine counted.trans (ite (fun _ => takeReport _ _ _ _) fun _ => ?_)
    unfold State.takePayload
    split
    · exact takeDirective _ _ _ _ _
    · exact refl _
  next => exact refl s

theorem handleFrame (s : State) (p : Port) (f : Frame) : s.Moves (s.handleFrame p f) := by
  have forwards (t : State) : t.Moves (t.forward p f) :=
    ite (fun _ => refl t) fun _ => of_aside (.modPort t _ _ fun _ _ x h => ⟨x, PortState.placeForward_inserting h⟩)
  have offers (t : State) : t.Moves (t.offer f) := ite (fun _ => refl t) fun _ => intake t f
  exact ite (fun _ => refl s) fun _ => ite (fun _ => offers s) fun _ =>
    ite (fun _ => (forwards s).trans (offers _)) fun _ => ite (fun _ => (forwards s).trans (offers _))
      fun _ => forwards s

theorem receive (s : State) (p : Port) (f : RxFrame) : s.Moves (s.receive p f) := by
  unfold State.receive
  split
  next => exact refl s
  next k _ =>
    refine of_aside (.modPort_of_tx s p _ ?_)
    unfold PortState.countError
    split <;> rfl
  next g _ =>
    have counted : s.Moves (s.countGood p) :=
      ite (fun _ => ite (fun _ => portEntersUp s p) fun _ => of_aside (.modPort_of_tx s p _ rfl)) fun _ => refl s
    exact counted.trans (handleFrame _ p g)

theorem sourceLost (s : State) (src : Addr) (i : Fin 63) : s.Moves (s.sourceLost src i) := by
  have invalid : s.Moves { s with loop := { s.loop with
      dup := upd s.loop.dup i fun e => { e with valid := false, lost := none } } } := quiet rfl
  refine invalid.trans ?_
  unfold State.sourceLost
  dsimp only
  split
  next => exact refl _
  next u _ => exact ite (fun _ => refl _) fun _ => (recordLost _ u).trans (handLost _ u)

/-! ## Expiries -/

theorem reach (s : State) (d : Nat) : s.Moves (s.at d) := quiet rfl

theorem expire (s : State) (t : Timer) (f : State → State) (h : ∀ d, t = some d → (s.at d).Moves (f (s.at d))) :
    s.Moves (s.expire t f) := by
  cases t with
  | none => exact refl s
  | some d => exact (reach s d).trans (h d rfl)

theorem expireSup (s : State) (g : Fin 8) (x : GenState) (f : State → State)
    (h : ∀ t : State, (t.gen g).state = x → t.Moves (f t)) : s.Moves (s.expireSup g x f) := by
  refine ite (fun stands => ?_) fun _ => refl s
  exact expire s _ f fun d _ => h (s.at d) (beq_iff_eq.mp stands)

theorem minRunExpiry (s : State) (g : Fin 8) : s.Moves (s.minRunExpiry g) := by
  refine expire s _ _ fun d runs => modGen _ g _ rfl rfl (.inl (.inr fun rest => ?_))
  have stopped : (s.gen g).minRun = .stopped := congrArg GenJob.minRun rest
  rw [stopped] at runs
  cases runs

theorem confirmDone (s : State) (i : Fin 32) : s.Moves (s.confirmDone i) := by
  refine expire s _ _ fun d runs => confirmExpiry _ i (State.inUse_of_fdr fun rest => ?_)
  have stopped : (s.fdr i).confirm = none := congrArg FdrJob.confirm rest
  rw [stopped] at runs
  cases runs

theorem permitDone (s : State) : s.Moves s.permitDone := ite (fun _ => drained (permitExpiry s)) fun _ => refl s

end State.Moves

/-! ## Completed insertions (R17, R24) -/

/-- Every unit has its job values of reset, and no order waits. -/
def State.Cleared (s : State) : Prop := (∀ u, s.AtReset u) ∧ ∀ a, s.slot a = none

theorem State.fillNotice_cleared {s : State} (h : s.Cleared) : s.fillNotice.Cleared :=
  ⟨fun u => (ActsOn.fillNotice s).rests u nofun (h.1 u), h.2⟩

theorem State.Cleared.of_reset {s : State} (seq : s.seq = Sequencer.reset) (cur : s.cur = Curtailment.reset)
    (shed : s.shed = Shedding.reset) (orders : s.loop.orders = Vector.replicate 64 none) : s.Cleared := by
  constructor
  · intro u
    cases u with
    | genset g => simp [State.AtReset, State.gen, seq, Sequencer.reset]
    | pv b => simp [State.AtReset, State.pv, cur, Curtailment.reset]
    | feeder f => simp [State.AtReset, State.fdr, shed, Shedding.reset]
    | busmeter => trivial
  · intro a
    simp [State.slot, orders]

theorem State.restartEffect_cleared (s : State) : s.restartEffect.Cleared :=
  fillNotice_cleared (.of_reset rfl rfl rfl rfl)

theorem State.poweredUp_cleared (s : State) (strap : Addr) (mntHigh : Bool) : (s.poweredUp strap mntHigh).Cleared :=
  fillNotice_cleared (.of_reset rfl rfl rfl rfl)

namespace State.Moves

theorem sentOrder (s : State) (p : Port) (a : Addr) : s.Moves (s.sentOrder p a) := by
  unfold State.sentOrder
  split
  next => exact refl s
  next o waits =>
    refine ite (fun _ => of_aside (.emptySlot s a none)) fun _ => of_aside (.outbound rfl (fun b x hx => ?_)
      fun q _ _ y h => ⟨y, by cases q <;> exact h⟩)
    by_cases e : b = a
    · subst e
      cases (put_same _ _ _).symm.trans hx
      exact ⟨o, waits, rfl⟩
    · exact ⟨x, (put_other _ _ _ _ e).symm.trans hx, rfl⟩

theorem disowned (s : State) (r : EntryRef) : s.Moves { s with loop := s.loop.disown r } :=
  of_aside (.outbound rfl (fun _ o h => ⟨o, h, rfl⟩) fun _ _ _ _ h => State.disown_inserting h)

theorem sentNotice (s : State) (p : Port) : s.Moves (s.sentNotice p) := by
  unfold State.sentNotice
  split
  · exact refl s
  · exact ite (fun _ => (disowned s .notice).trans (quiet rfl)) fun _ => quiet rfl

end State.Moves

/-- A completed segment leaves the jobs, but for the last of the answer to RESTART (R186). -/
theorem State.sentSegment_cases (s : State) (p : Port) (i : Nat) :
    s.Moves (s.sentSegment p i) ∨ (s.sentSegment p i).Cleared := by
  unfold State.sentSegment
  split
  next => exact .inl (.refl s)
  next x rest _ =>
    dsimp only
    split
    · have popped : s.Moves { s with loop := { s.loop.disown (.answer 0) with answers := rest } } :=
        (Moves.disowned s (.answer 0)).trans (.quiet rfl)
      unfold State.popAnswer
      dsimp only
      split
      · exact .inr (State.restartEffect_cleared _)
      · exact .inl popped
    · exact .inl (.quiet rfl)

/-- The completion of an insertion moves nothing but the outbound entries, or brings RESTART into effect. -/
theorem State.inserted_cases (s : State) (p : Port) : s.Moves (s.inserted p) ∨ (s.inserted p).Cleared := by
  unfold State.inserted
  split
  next r f stale _ =>
    extract_lets t
    have freed : s.Moves t := .of_aside (.modPort s p _ fun r f x h => by
      cases PortState.startForward_inserting h)
    split
    · exact .inl freed
    · cases r with
      | order a => exact .inl (freed.trans (.sentOrder t p a))
      | answer i => exact (t.sentSegment_cases p i).imp_left freed.trans
      | notice => exact .inl (freed.trans (.sentNotice t p))
  next => exact .inl (.refl s)
  next => exact .inl (.refl s)

/-! ## One command -/

/-- At the round boundary a commit takes effect, or nothing but its pending mark changes (R175). -/
theorem State.commitBoundary_cases (s : State) :
    s.commitBoundary = s.commitEffect ∨ s.Moves s.commitBoundary := by
  unfold State.commitBoundary
  split
  · exact .inr (.refl s)
  · split
    · split
      · exact .inl rfl
      · exact .inr (.quiet rfl)
    · exact .inr (.refl s)

/-- The end of a round: the jobs move, or a commit takes effect and the jobs move after it. -/
theorem State.roundExpiry_cases (s : State) :
    s.Moves s.roundExpiry ∨ ∃ d, (s.at d).commitEffect.Moves s.roundExpiry := by
  have after (t : State) : t.Moves t.restartRound.round := by
    have restarted : t.Moves t.restartRound := .quiet rfl
    exact restarted.trans (.round _)
  unfold State.roundExpiry State.expire
  split
  next => exact .inl (.refl s)
  next d _ =>
    change s.Moves (s.at d).commitBoundary.restartRound.round ∨
      ∃ e, (s.at e).commitEffect.Moves (s.at d).commitBoundary.restartRound.round
    obtain effect | moves := (s.at d).commitBoundary_cases
    · exact .inr ⟨d, by rw [effect]; exact after _⟩
    · exact .inl ((State.Moves.reach s d).trans (moves.trans (after _)))

/-- What one command can do: the jobs move; or an insertion begins; or the part is reset or restarted; or a
commit takes effect at the round boundary, and the jobs move after it. -/
theorem exec_cases {c : Instr} {s t : State} (h : exec c s = .next t) :
    s.Moves t ∨ (∃ p, t = s.opportunity p) ∨ t.Cleared ∨ ∃ d, (s.at d).commitEffect.Moves t := by
  cases c with
  | powerUpOrPinReset strap mntHigh => cases h; exact .inr (.inr (.inl (s.poweredUp_cleared strap mntHigh)))
  | insertionOpportunity p => cases h; exact .inr (.inl ⟨p, rfl⟩)
  | insertionComplete p => cases h; exact (s.inserted_cases p).imp_right (.inr ∘ .inl)
  | roundTimerExpiry => cases h; exact s.roundExpiry_cases.imp_right (.inr ∘ .inr)
  | readTable src token args | writeTable src token args | clearShadow src token args | commit src token args
  | readStatus src token args | ackNotices src token args | readUnit src token args | readBalance src token args
  | readStack src token args | setMode src token args | clearLockout src token args | blackStart src token args
  | abandon src token args | restart src token args => cases h; exact .inl (.takeDirective s src _ token args)
  | frameReceive p f => cases h; exact .inl (.receive s p f)
  | lossOfSignal p => cases h; exact .inl (.losePort s p)
  | errorWindowExpiry p =>
    cases h
    exact .inl (.ite (fun _ => .refl s) fun _ => .expire s _ _ fun _ _ => .windowDone _ p)
  | forwardTransmitDone p =>
    cases h
    exact .inl (.of_aside (.modPort s p _ fun _ _ x hx => ⟨x, PortState.forwarded_inserting hx⟩))
  | lostTimerExpiry src =>
    cases h
    refine .inl ?_
    unfold State.lostExpiry
    split
    · exact .expire s _ _ fun _ _ => .sourceLost _ src _
    · exact .refl s
  | lateTimerExpiry u => cases h; exact .inl (.expire s _ _ fun _ _ => .lateDone _ u)
  | crankTimerExpiry g =>
    cases h
    exact .inl (.expireSup s g _ _ fun t st => .drained (.failedAttempt t g (.inl (by rw [st]; rfl))))
  | restTimerExpiry g => cases h; exact .inl (.expireSup s g _ _ fun t st => .drained (.restDone t g _ st))
  | warmTimerExpiry g =>
    cases h; exact .inl (.expireSup s g _ _ fun t st => .drained (.warmDone t g (by rw [st]; rfl)))
  | hotTimerExpiry g =>
    cases h
    exact .inl (.expireSup s g _ _ fun t st =>
      .drained ((State.Calms.enterCooldown t g).moves (State.inUse_of_state (by simp [st]))))
  | syncTimerExpiry g =>
    cases h; exact .inl (.expireSup s g _ _ fun t st => .drained (.failedClose t g (by simp [st])))
  | minRunTimerExpiry g => cases h; exact .inl (.minRunExpiry s g)
  | unloadTimerExpiry g => cases h; exact .inl (.expireSup s g _ _ fun t st => .drained (.unloadDone t g st))
  | coolTimerExpiry g =>
    cases h
    exact .inl (.expireSup s g _ _ fun t st =>
      .drained ((State.Calms.enterStopping t g).moves (State.inUse_of_state (by simp [st]))))
  | stopTimerExpiry g =>
    cases h
    exact .inl (.expireSup s g _ _ fun t st =>
      .drained ((State.Calms.enterNotReady t g).moves (State.inUse_of_state (by simp [st]))))
  | confirmTimerExpiry i => cases h; exact .inl (.confirmDone s i)
  | stageDelayExpiry n =>
    cases h; exact .inl (.ite (fun _ => .expire s _ _ fun _ _ => .fireStage _ n) fun _ => .refl s)
  | recoverTimerExpiry => cases h; exact .inl (.expire s _ _ fun _ _ => .quiet rfl)
  | restoreDwellExpiry => cases h; exact .inl (.expire s _ _ fun _ _ => .quiet rfl)
  | restoreIntervalExpiry => cases h; exact .inl (.expire s _ _ fun _ _ => .quiet rfl)
  | secondsCountTick => cases h; exact .inl (.quiet rfl)
  | surveyTimerExpiry => cases h; exact .inl (.expire s _ _ fun _ _ => .drained (.surveyDone _))
  | clearDownTimerExpiry => cases h; exact .inl (.expire s _ _ fun _ _ => .drained (.clearDownDone _))
  | blackStartLimitExpiry => cases h; exact .inl (.expire s _ _ fun _ _ => .drained (.limitDone _))
  | energizeTimerExpiry => cases h; exact .inl (.expire s _ _ fun _ _ => .drained (.energizeDone _))
  | stepIntervalExpiry => cases h; exact .inl (.expire s _ _ fun _ _ => .modBs _ _)
  | capacityHoldExpiry => cases h; exact .inl (.expire s _ _ fun _ _ => .modBs _ _)
  | pvHoldExpiry => cases h; exact .inl (.expire s _ _ fun _ _ => (State.Moves.modBs _ _).trans (.permitDone _))
  | pvGapExpiry => cases h; exact .inl (.expire s _ _ fun _ _ => (State.Moves.modBs _ _).trans (.permitDone _))
  | storeSaveDone => cases h; exact .inl (.ite (fun _ => .quiet rfl) fun _ => .refl s)
  | mntLineLow => cases h; exact .inl (.lineLow s)
  | mntLineHigh => cases h; exact .inl (.lineHigh s)
  | pulseTimerExpiry => cases h; exact .inl (.expire s _ _ fun _ _ => .modMode _ _)
  | trainTimerExpiry => cases h; exact .inl (.expire s _ _ fun _ _ => .trainDone _)
  | lineModeTimerExpiry => cases h; exact .inl (.expire s _ _ fun _ _ => .returnToDirective _)

end Sys2Proof.Machine
end

section
/-! SUPPORT. A commit taking effect (R176): its walks over the units, and the starts that it ends (R83). -/

namespace Sys2Proof.Machine

/-! ## Walks -/

/-- What every visit of a walk keeps, the walk keeps. -/
theorem forEach_preserves {ι : Type} {P : State → Prop} (f : ι → State → State) (is : List ι)
    (keep : ∀ i ∈ is, ∀ s, P s → P (f i s)) (s : State) (h : P s) : P (forEach is f s) := by
  unfold forEach
  induction is generalizing s with
  | nil => exact h
  | cons i is ih =>
    obtain ⟨first, later⟩ := List.forall_mem_cons.mp keep
    exact ih later (f i s) (first s h)

/-- What one visit of a walk brings about and every visit keeps, stands after the walk. -/
theorem forEach_reaches {ι : Type} {P : State → Prop} (f : ι → State → State) (is : List ι)
    (keep : ∀ i s, P s → P (f i s)) (j : ι) (member : j ∈ is) (visit : ∀ s, P (f j s)) (s : State) :
    P (forEach is f s) := by
  unfold forEach
  induction is generalizing s with
  | nil => cases member
  | cons i is ih =>
    by_cases later : j ∈ is
    · exact ih later (f i s)
    · obtain rfl := (List.mem_cons.mp member).resolve_right later
      exact forEach_preserves f is (fun k _ => keep k) _ (visit s)

theorem mem_allUnits (u : UnitRef) : u ∈ allUnits := by
  cases u <;> simp [allUnits, gensets, pvBlocks, feeders]

/-! ## Starts that a commit ends -/

theorem State.startCount_le_eight (s : State) : s.startCount ≤ 8 := List.length_filter_le _ gensets

theorem State.startCount_endStart {s : State} {g : Fin 8} (h : (s.gen g).state.starting = true) :
    (s.endStart g).startCount < s.startCount := by
  obtain ⟨acts, -, ended, -⟩ := Calms.endStart s g h
  simp only [State.startCount_eq_card]
  refine Finset.card_lt_card (Finset.ssubset_iff_of_subset (fun k hk => ?_) |>.mpr ⟨g, ?_, ?_⟩)
  · simp only [Finset.mem_filter, Finset.mem_univ, true_and] at hk ⊢
    by_cases e : k = g
    · exact e ▸ h
    · rwa [acts.gens k (by simpa using Ne.symm e)] at hk
  · simpa using h
  · simp [ended]

/-- The set whose start is ended next, where there are too many. -/
theorem endStarts_cases (n : Nat) (s : State) :
    (endStarts (n + 1) s = s ∧ s.startCount ≤ s.act.parallelStarts) ∨
    ∃ g, (s.gen g).state.starting = true ∧ endStarts (n + 1) s = endStarts n (s.endStart g) := by
  rw [endStarts]
  split
  next within => exact .inl ⟨rfl, within⟩
  next above =>
    split
    next none =>
      have empty : s.startCount = 0 := by
        rw [State.startCount, (greatestBy_eq_none_iff _ _).mp none, List.length_nil]
      omega
    next g chosen =>
      obtain ⟨member, -⟩ := greatestBy_spec _ _ _ chosen
      exact .inr ⟨g, (List.mem_filter.mp member).2, rfl⟩

theorem endStarts_moves (n : Nat) (s : State) : s.Moves (endStarts n s) := by
  induction n generalizing s with
  | zero => exact .refl s
  | succ n ih =>
    obtain ⟨within, -⟩ | ⟨g, starting, next⟩ := endStarts_cases n s
    · rw [within]
      exact .refl s
    · rw [next]
      exact ((State.Calms.endStart s g starting).moves (State.inUse_of_starting starting)).trans (ih _)

/-- A commit that lowers the parallel starts ends starts until the count is within them (R83). -/
theorem endStarts_startsBounded (n : Nat) (s : State) (enough : s.startCount ≤ n) : (endStarts n s).StartsBounded := by
  induction n generalizing s with
  | zero => exact enough.trans (Nat.zero_le _)
  | succ n ih =>
    obtain ⟨within, bounded⟩ | ⟨g, starting, next⟩ := endStarts_cases n s
    · rw [within]
      exact bounded
    · rw [next]
      have fewer := State.startCount_endStart starting
      exact ih _ (by omega)

/-! ## A commit takes effect -/

/-- The state between the commit's part in the slots and the picture, and its part in the jobs (R176). -/
def State.committedSlots (s : State) : State :=
  forEach allUnits (fun u t => t.pictureUnit s.bank.active s.bank.shadow u)
    ((s.copyShadow.emptyOldSlots s.bank.active s.bank.shadow).emptyOffOrder s.bank.active s.bank.shadow)

/-- After it, the allocator's part (R78). -/
def State.committedPvs (s : State) : State :=
  forEach pvBlocks (fun b t => t.commitPv s.bank.active s.bank.shadow b) s.committedSlots

/-- Then the sequencer's part (R108). -/
def State.committedGens (s : State) : State :=
  forEach gensets (fun g t => t.commitGen s.bank.active s.bank.shadow (s.genLost g) g) s.committedPvs

/-- Then the end of the starts that are too many (R83). -/
def State.committedStarts (s : State) : State := endStarts 8 s.committedGens

/-- Then the shedding unit's part (R131). -/
def State.committedFdrs (s : State) : State :=
  forEach feeders (fun i t => t.commitFdr s.bank.active s.bank.shadow i) s.committedStarts

namespace State.Moves

/-- A change of a feeder's record that leaves the values of reset where the feeder is not configured. -/
theorem modFdr (s : State) (i : Fin 32) (f : FdrJob → FdrJob) (h : f FdrJob.reset = FdrJob.reset) :
    s.Moves (s.modFdr i f) := by
  by_cases used : s.InUse (.feeder i)
  · exact of_feeder used (.modFdr s i f)
  · obtain ⟨rest, -⟩ := Classical.not_not.mp (not_or.mp used).2
    have same : upd s.shed.jobs i f = s.shed.jobs := upd_self _ i f (by rw [← State.fdr, rest, h])
    rw [State.modFdr, same]
    exact refl s

theorem commitPv (s : State) (old new : Bank) (b : Fin 16) : s.Moves (s.commitPv old new b) :=
  ite (fun _ => modPv s b _ fun _ => rfl) fun _ => refl s

theorem commitFdr (s : State) (old new : Bank) (i : Fin 32) : s.Moves (s.commitFdr old new i) :=
  ite (fun _ => (of_aside (.unstack s i none)).trans (modFdr _ i _ rfl)) fun _ => refl s

theorem commitController (s t : State) (old new : Bank) : t.Moves (s.commitController t old new) :=
  ite (fun _ => drained (enterSurvey t)) fun _ => ite (fun _ => drained (judgeBlind t)) fun _ => drain t

theorem committedPvs (s : State) : s.committedSlots.Moves s.committedPvs :=
  forEach _ (fun b t => commitPv t _ _ b) pvBlocks _

theorem committedStarts (s : State) : s.committedGens.Moves s.committedStarts := endStarts_moves 8 _

theorem committedFdrs (s : State) : s.committedStarts.Moves s.committedFdrs :=
  forEach _ (fun i t => commitFdr t _ _ i) feeders _

/-- What follows the jobs' records at the boundary: the bus meter, the controller and the store. -/
theorem commitRest (s : State) : s.committedFdrs.Moves s.commitEffect := by
  unfold State.commitEffect
  extract_lets old new emptied pictured judged
  have jobs : s.committedFdrs.Moves (s.commitJobs pictured old new) := ite (fun _ => quiet rfl) fun _ => refl _
  have controlled : State.Moves (s.commitJobs pictured old new) judged :=
    (commitController s _ old new).trans (raise _ _)
  exact jobs.trans (controlled.trans (quiet rfl))

end State.Moves

/-- A commit leaves the parallel starts then in force (R83), whatever the count was before it. -/
theorem State.commitEffect_startsBounded (s : State) : s.commitEffect.StartsBounded :=
  ((State.Moves.committedFdrs s).trans (.commitRest s)).startsBounded
    (endStarts_startsBounded 8 _ (State.startCount_le_eight _))

end Sys2Proof.Machine
end

section
/-! SUPPORT. An insertion begins (R16), and the law of R83. -/

namespace Sys2Proof.Machine

/-! ## An insertion begins -/

/-- An insertion opportunity is passed by, or the insertion of one entry begins at the port (R16). -/
theorem State.opportunity_cases (s : State) (p : Port) :
    s.opportunity p = s ∨ ∃ own r f, s.entryFrame own r = some f ∧
      s.opportunity p = s.modPort p fun x => { x with tx := .inserting r f false } := by
  unfold State.opportunity
  split
  · split
    next own r _ _ =>
      unfold State.insert
      split
      · exact .inl rfl
      next f made => exact .inr ⟨own, r, f, made, rfl⟩
    · exact .inl rfl
  · exact .inl rfl

theorem State.modPort_jobs (s : State) (p : Port) (f : PortState → PortState) :
    (s.modPort p f).bank = s.bank ∧ (s.modPort p f).seq = s.seq ∧ (s.modPort p f).cur = s.cur ∧
      (s.modPort p f).shed = s.shed ∧ (s.modPort p f).loop.orders = s.loop.orders := by
  cases p <;> exact ⟨rfl, rfl, rfl, rfl, rfl⟩

/-- The beginning of an insertion is seen by the transmitters alone. -/
theorem State.opportunity_jobs (s : State) (p : Port) :
    (s.opportunity p).bank = s.bank ∧ (s.opportunity p).seq = s.seq ∧ (s.opportunity p).cur = s.cur ∧
      (s.opportunity p).shed = s.shed ∧ (s.opportunity p).loop.orders = s.loop.orders := by
  obtain passed | ⟨own, r, f, -, begun⟩ := s.opportunity_cases p
  · rw [passed]
    exact ⟨rfl, rfl, rfl, rfl, rfl⟩
  · rw [begun]
    exact s.modPort_jobs p _

theorem State.startsBounded_of_same {s t : State} (bank : t.bank = s.bank) (seq : t.seq = s.seq)
    (h : s.StartsBounded) : t.StartsBounded := by
  simpa only [State.StartsBounded, State.startCount, State.gen, State.act, bank, seq] using h

theorem State.Cleared.startsBounded {s : State} (h : s.Cleared) : s.StartsBounded := by
  obtain ⟨rest, -⟩ := h
  have idle (g : Fin 8) : (s.gen g).state.starting = false := by
    rw [show s.gen g = GenJob.reset from rest (.genset g)]
    rfl
  simp [State.StartsBounded, State.startCount, idle]

/-- Settles O25: the jobs move set by set, and a set takes a start slot while one is free; the commit, which may
lower the parallel starts, ends starts until their count is within them. -/
theorem startsNeverExceedParallelStarts : Obligations.StartsNeverExceedParallelStarts := by
  intro c s t step bounded
  obtain moves | ⟨p, rfl⟩ | cleared | ⟨d, moves⟩ := exec_cases step
  · exact moves.startsBounded bounded
  · obtain ⟨bank, seq, -⟩ := s.opportunity_jobs p
    exact State.startsBounded_of_same bank seq bounded
  · exact cleared.startsBounded
  · exact moves.startsBounded (State.commitEffect_startsBounded _)

end Sys2Proof.Machine
end

section
/-! SUPPORT. What a commit (R176) leaves in the records and the slots. -/

namespace Sys2Proof.Machine

/-! ## The slots at a commit (R21, R176) -/

theorem State.ActsOn.slot_none {s t : State} (h : s.ActsOn none t) {a : Addr} (empty : s.slot a = none) :
    t.slot a = none := by
  by_contra waits
  obtain ⟨o, ho⟩ := Option.ne_none_iff_exists'.mp waits
  obtain ⟨x, hx, -⟩ | ⟨_, none, -⟩ := h.slots a o ho
  · cases empty.symm.trans hx
  · cases none

theorem State.ActsOn.slotsSound {s t : State} (h : s.ActsOn none t) (slots : s.SlotsSound) : t.SlotsSound :=
  State.Move.slotsSound ⟨h, nofun, nofun⟩ nofun slots

/-- The visit of one unit in the emptying of the old slots. -/
def State.emptyOldSlot (s : State) (old new : Bank) (u : UnitRef) : State :=
  if removedBy old new u || movedBy old new u then
    match old.stationOf u with
    | none => s
    | some a => s.emptySlot a
  else s

theorem State.emptyOldSlots_eq (s : State) (old new : Bank) :
    s.emptyOldSlots old new = forEach allUnits (fun u t => t.emptyOldSlot old new u) s := rfl

theorem State.emptyOldSlot_slot (s : State) {old new : Bank} {u : UnitRef} {a : Addr}
    (leaves : removedBy old new u = true ∨ movedBy old new u = true) (station : old.stationOf u = some a) :
    (s.emptyOldSlot old new u).slot a = none := by
  simp [State.emptyOldSlot, leaves, station]

namespace State.ActsOn

theorem emptyOldSlot (s : State) (old new : Bank) (u : UnitRef) : s.ActsOn none (s.emptyOldSlot old new u) := by
  refine .ite (fun _ => ?_) fun _ => refl s none
  split
  · exact refl s none
  · exact emptySlot s _ none

theorem emptyOldSlots (s : State) (old new : Bank) : s.ActsOn none (s.emptyOldSlots old new) := by
  rw [State.emptyOldSlots_eq]
  exact forEach _ (fun u t => emptyOldSlot t old new u) allUnits s

theorem emptyOffOrder (s : State) (old new : Bank) : s.ActsOn none (s.emptyOffOrder old new) := by
  refine forEach _ (fun e t => .ite (fun _ => ?_) fun _ => refl t none) s.shed.stack s
  split
  · exact refl t none
  next a _ =>
    split
    · exact refl t none
    · exact .ite (fun _ => emptySlot t a none) fun _ => refl t none

theorem pictureUnit (s : State) (old new : Bank) (u : UnitRef) : s.ActsOn none (s.pictureUnit old new u) := by
  have lost (t : State) : t.ActsOn none (t.recordLost u) := by cases u <;> exact quiet none rfl
  unfold State.pictureUnit
  refine .ite (fun _ => by cases u <;> exact quiet none rfl) fun _ => ?_
  extract_lets t
  have moved : s.ActsOn none t := .ite (fun _ => lost s) fun _ => refl s none
  refine moved.trans (.ite (fun _ => refl t none) fun _ => ?_)
  cases u with
  | genset g => exact .ite (fun _ => refl t none) fun _ => quiet none rfl
  | pv b => exact .ite (fun _ => refl t none) fun _ => quiet none rfl
  | feeder | busmeter => exact refl t none

theorem after_emptyOldSlots (s : State) :
    (s.copyShadow.emptyOldSlots s.bank.active s.bank.shadow).ActsOn none s.committedSlots :=
  (emptyOffOrder _ _ _).trans (forEach _ (fun u t => pictureUnit t _ _ u) allUnits _)

theorem committedSlots (s : State) : s.copyShadow.ActsOn none s.committedSlots :=
  (emptyOldSlots s.copyShadow _ _).trans (after_emptyOldSlots s)

end State.ActsOn

/-- No order waits any more at the old station of a unit that the commit removes or moves. -/
theorem State.committedSlots_slot_none {s : State} {u : UnitRef} {a : Addr}
    (leaves : removedBy s.bank.active s.bank.shadow u = true ∨ movedBy s.bank.active s.bank.shadow u = true)
    (station : s.bank.active.stationOf u = some a) : s.committedSlots.slot a = none := by
  have emptied : (s.copyShadow.emptyOldSlots s.bank.active s.bank.shadow).slot a = none := by
    rw [State.emptyOldSlots_eq]
    exact forEach_reaches (P := fun t => t.slot a = none) _ allUnits
      (fun v t => (ActsOn.emptyOldSlot t _ _ v).slot_none) u (mem_allUnits u)
      (fun t => t.emptyOldSlot_slot leaves station) _
  exact (ActsOn.after_emptyOldSlots s).slot_none emptied

theorem State.committedSlots_act (s : State) : s.committedSlots.act = s.bank.shadow :=
  (ActsOn.committedSlots s).act

theorem State.committedSlots_gen (s : State) (g : Fin 8) : s.committedSlots.gen g = s.gen g :=
  (ActsOn.committedSlots s).gens g nofun

/-- An order that waits on waits at the station, kept, of a unit that stays configured. -/
theorem State.committedSlots_waits {s : State} (slots : s.SlotsSound) {a : Addr} {o : OrderSlot}
    (waits : s.committedSlots.slot a = some o) :
    (∃ x, s.slot a = some x ∧ x.code = o.code) ∧
      ∃ u, s.bank.shadow.configured u = true ∧ s.bank.active.stationOf u = some a ∧
        s.bank.shadow.stationOf u = some a := by
  obtain ⟨x, hx, code⟩ | ⟨_, none, -⟩ := (ActsOn.committedSlots s).slots a o waits
  · obtain ⟨u, mapped, station⟩ := slots.1 a (Option.ne_none_iff_exists'.mpr ⟨x, hx⟩)
    have before : s.bank.active.configured u = true := Bank.configured_of_mapped mapped
    have stays : ¬ (removedBy s.bank.active s.bank.shadow u = true ∨
        movedBy s.bank.active s.bank.shadow u = true) := fun leaves => by
      cases (committedSlots_slot_none leaves station).symm.trans waits
    have after : s.bank.shadow.configured u = true := by simpa [removedBy, before] using mt Or.inl stays
    have kept : s.bank.active.stationOf u = s.bank.shadow.stationOf u := by
      simpa [movedBy, before, after] using mt Or.inr stays
    exact ⟨⟨x, hx, code⟩, u, after, station, kept ▸ station⟩
  · cases none

theorem State.committedSlots_slotsSound {s : State} (slots : s.SlotsSound) : s.committedSlots.SlotsSound := by
  obtain ⟨-, agrees, starts⟩ := s.slotsSound_iff.mp slots
  refine (State.slotsSound_iff _).mpr ⟨fun a ha => ?_, fun g a station o waits => ?_, fun g => ?_⟩
  · obtain ⟨o, waits⟩ := Option.ne_none_iff_exists'.mp ha
    obtain ⟨-, u, configured, -, station⟩ := committedSlots_waits slots waits
    rw [committedSlots_act]
    exact ⟨u, Bank.mapped_of_stationOf station configured, station⟩
  · obtain ⟨⟨x, hx, code⟩, u, -, before, after⟩ := committedSlots_waits slots waits
    rw [committedSlots_act] at station
    cases Bank.stationOf_inj station after
    rw [committedSlots_gen, ← code]
    exact agrees g a before x hx
  · rw [committedSlots_gen]
    exact starts g

/-! ## The records at a commit (R108) -/

theorem upd_upd_const {α : Type} {n : Nat} (v : Vector α n) (i : Fin n) (f : α → α) (x : α) :
    upd (upd v i f) i (fun _ => x) = upd v i fun _ => x := by
  simp [upd, put]

theorem State.modGen_outline {s t : State} (h : t.outline = s.outline) (g : Fin 8) (f : GenJob → GenJob) :
    (t.modGen g f).outline = (s.modGen g f).outline := by
  simp only [State.outline, Prod.mk.injEq] at h ⊢
  obtain ⟨act, gens, rest⟩ := h
  exact ⟨act, congrArg (upd · g f) gens, rest⟩

theorem State.setGenState_outline (s : State) (g : Fin 8) (x : GenState) (keep : Bool) :
    ∃ f, (s.setGenState g x keep).outline = (s.modGen g f).outline := by
  refine ⟨fun j => { j with
    state := x, before := none, sup := none, mark := keep && j.mark
    minRun := if x.onLine then j.minRun else .stopped }, ?_⟩
  unfold State.setGenState
  dsimp only
  split <;> rfl

/-- A set that is given the values of reset bears no trace of the state that it has been set to before. -/
theorem State.setGenState_reset_outline (s : State) (g : Fin 8) (x : GenState) (keep : Bool) :
    ((s.setGenState g x keep).modGen g fun _ => GenJob.reset).outline =
      (s.modGen g fun _ => GenJob.reset).outline := by
  obtain ⟨f, same⟩ := s.setGenState_outline g x keep
  rw [State.modGen_outline same]
  simp only [State.outline, State.modGen, State.act, upd_upd_const]

/-- The record of a set comes to its reset values where the commit removes or configures the set; else the set
is one that is acted on. -/
theorem State.commitGen_cases {s : State} {old new : Bank} (wasLost : Bool) (g : Fin 8) (act : s.act = new) :
    (old.configured (.genset g) ≠ new.configured (.genset g) ∧
      (s.modGen g fun _ => GenJob.reset).ActsOn none (s.commitGen old new wasLost g)) ∨
    (old.configured (.genset g) = true ∧ new.configured (.genset g) = true ∧
      s.MovesOn (.genset g) (s.commitGen old new wasLost g)) ∨
    s.commitGen old new wasLost g = s := by
  unfold State.commitGen
  split
  next removed =>
    exact .inl ⟨fun same => by simp [removedBy, same] at removed,
      .quiet none (s.setGenState_reset_outline g _ _)⟩
  next stays =>
    split
    next added => exact .inl ⟨fun same => by simp [addedBy, same] at added, .refl _ none⟩
    next =>
      split
      next before =>
        have after : new.configured (.genset g) = true := by simpa [removedBy, before] using stays
        have used : s.InUse (.genset g) := .inl (act ▸ after)
        extract_lets t
        have attempts : s.MovesOn (.genset g) t := .of_move (.modGen s g _ rfl rfl used)
        exact .inr (.inl ⟨before, after, .ite (fun _ => attempts.trans (.genGoesLost t g)) fun _ => attempts⟩)
      next => exact .inr (.inr rfl)

theorem State.modGen_atReset {s : State} {u : UnitRef} (g : Fin 8) (h : s.AtReset u) :
    (s.modGen g fun _ => GenJob.reset).AtReset u := by
  cases u with
  | genset k =>
    by_cases e : k = g
    · exact e ▸ s.modGen_gen k _
    · exact (s.modGen_gen_other g k _ e).trans h
  | pv | feeder | busmeter => exact h

/-- A set that is no more configured may come to its reset values, since no order waits at a station of it. -/
theorem State.modGen_reset_slotsSound {s : State} {g : Fin 8} (off : s.act.configured (.genset g) = false)
    (slots : s.SlotsSound) : (s.modGen g fun _ => GenJob.reset).SlotsSound := by
  obtain ⟨waits, agrees, starts⟩ := s.slotsSound_iff.mp slots
  refine (State.slotsSound_iff _).mpr ⟨waits, fun k a station o ho => ?_, fun k => ?_⟩
  · by_cases e : k = g
    · subst e
      obtain ⟨u, mapped, other⟩ := waits a (Option.ne_none_iff_exists'.mpr ⟨o, ho⟩)
      cases Bank.stationOf_inj station other
      cases off.symm.trans (Bank.configured_of_mapped mapped)
    · rw [State.modGen_gen_other _ _ _ _ e]
      exact agrees k a station o ho
  · by_cases e : k = g
    · subst e
      simp [GenJob.reset]
    · rw [State.modGen_gen_other _ _ _ _ e]
      exact starts k

end Sys2Proof.Machine
end

section
/-! SUPPORT. The laws of the records, the slots and the transmitters (R95) through a commit. -/

namespace Sys2Proof.Machine

/-! ## The slots and the transmitters while the records are committed -/

/-- What stands, from the state `s` before a commit, while the commit goes through the records of the sets. -/
structure State.Committing (s x : State) : Prop where
  act : x.act = s.bank.shadow
  slots : x.SlotsSound
  rests : ∀ g, s.bank.active.configured (.genset g) = false → x.AtReset (.genset g)
  locks : s.LocksStarts x

theorem State.Committing.acts {s x y : State} {w : Option UnitRef} (h : s.Committing x) (acts : x.ActsOn w y)
    (before : ∀ g, w = some (.genset g) → s.bank.active.configured (.genset g) = true) (slots : y.SlotsSound)
    (locks : x.LocksStarts y) : s.Committing y where
  act := acts.act.trans h.act
  slots := slots
  rests g off := acts.rests _ (fun e => by cases off.symm.trans (before g e)) (h.rests g off)
  locks := h.locks.trans locks acts.act

theorem State.Committing.aside {s x y : State} (h : s.Committing x) (acts : x.ActsOn none y) : s.Committing y :=
  h.acts acts nofun (acts.slotsSound h.slots) (State.Moves.of_aside acts).locksStarts

/-- A set that the commit removes or configures comes to its reset values; one that it configures has them. -/
theorem State.Committing.reset {s x : State} {g : Fin 8} (h : s.Committing x)
    (changes : s.bank.active.configured (.genset g) ≠ s.bank.shadow.configured (.genset g)) :
    s.Committing (x.modGen g fun _ => GenJob.reset) := by
  by_cases before : s.bank.active.configured (.genset g) = true
  · have after : x.act.configured (.genset g) = false := by
      rw [h.act]
      simpa [before] using changes.symm
    refine ⟨h.act, State.modGen_reset_slotsSound after h.slots, fun k off => State.modGen_atReset g (h.rests k off), ?_⟩
    refine h.locks.trans (.of_kept (fun k locked => ?_) fun _ _ _ y hy => ⟨y, hy⟩) rfl
    by_cases e : k = g
    · subst e
      rw [State.modGen_gen] at locked
      cases locked
    · rwa [State.modGen_gen_other _ _ _ _ e] at locked
  · have rest : x.gen g = GenJob.reset := h.rests g (Bool.not_eq_true _ ▸ before)
    rwa [State.modGen_self rest.symm]

theorem State.Committing.commitGen {s x : State} (h : s.Committing x) (wasLost : Bool) (g : Fin 8) :
    s.Committing (x.commitGen s.bank.active s.bank.shadow wasLost g) := by
  obtain ⟨changes, acts⟩ | ⟨before, after, moves⟩ | same := State.commitGen_cases wasLost g h.act
  · exact (h.reset changes).aside acts
  · have sound : x.UnitSound (.genset g) := fun off => by cases (h.act ▸ off).symm.trans after
    refine h.acts moves.actsOn (fun k e => ?_) (moves.slotsSound sound h.slots) moves.moves.locksStarts
    cases e
    exact before
  · rwa [same]

/-- The allocator's part of the commit is seen in its own records alone. -/
theorem State.committedPvs_same (s : State) :
    s.committedPvs.bank = s.committedSlots.bank ∧ s.committedPvs.seq = s.committedSlots.seq ∧
      s.committedPvs.loop.orders = s.committedSlots.loop.orders := by
  have same := forEach_keeps (fun x : State => (x.bank, x.seq, x.loop.orders))
    (fun b t => t.commitPv s.bank.active s.bank.shadow b) pvBlocks
    (fun b _ t => by unfold State.commitPv; split <;> rfl) s.committedSlots
  simp only [Prod.mk.injEq] at same
  exact same

/-- The shedding unit's part of the commit is seen in its own record alone. -/
theorem State.committedFdrs_same (s : State) :
    s.committedFdrs.bank = s.committedStarts.bank ∧ s.committedFdrs.seq = s.committedStarts.seq ∧
      s.committedFdrs.loop.orders = s.committedStarts.loop.orders := by
  have same := forEach_keeps (fun x : State => (x.bank, x.seq, x.loop.orders))
    (fun i t => t.commitFdr s.bank.active s.bank.shadow i) feeders
    (fun i _ t => by unfold State.commitFdr; split <;> rfl) s.committedStarts
  simp only [Prod.mk.injEq] at same
  exact same

theorem State.SlotsSound.of_same {s t : State} (same : t.bank = s.bank ∧ t.seq = s.seq ∧ t.loop.orders = s.loop.orders)
    (slots : s.SlotsSound) : t.SlotsSound := by
  obtain ⟨bank, seq, orders⟩ := same
  simpa only [State.SlotsSound, State.act, State.gen, State.slot, bank, seq, orders] using slots

theorem State.committing_slots {s : State} (units : s.UnitsSound) (slots : s.SlotsSound) :
    s.Committing s.committedSlots where
  act := s.committedSlots_act
  slots := State.committedSlots_slotsSound slots
  rests g off := (s.committedSlots_gen g).trans (units.1 g off)
  locks := .of_kept (fun g locked => s.committedSlots_gen g ▸ locked) (ActsOn.committedSlots s).sends

theorem State.committing_gens {s : State} (units : s.UnitsSound) (slots : s.SlotsSound) :
    s.Committing s.committedGens := by
  have first := s.committing_slots units slots
  have moves := State.Moves.committedPvs s
  have pvs : s.Committing s.committedPvs := by
    refine ⟨moves.act.trans first.act, first.slots.of_same s.committedPvs_same, fun g off => ?_,
      first.locks.trans moves.locksStarts moves.act⟩
    obtain ⟨-, seq, -⟩ := s.committedPvs_same
    have same : s.committedPvs.gen g = s.committedSlots.gen g := by simp only [State.gen, seq]
    exact same.trans (first.rests g off)
  exact forEach_preserves _ gensets (fun g _ x h => h.commitGen _ g) _ pvs

/-! ## A unit that the commit leaves unconfigured (R64, R79, R109) -/

theorem State.commitGen_act (s : State) (old new : Bank) (wasLost : Bool) (g : Fin 8) :
    (s.commitGen old new wasLost g).act = s.act := by
  have kept : (s.commitGen old new wasLost g).kept = s.kept := by
    simp only [State.commitGen, apply_ite State.kept, State.modGen_kept, State.setGenState_kept,
      State.genGoesLost_kept, ite_self]
  exact congrArg (·.bank.active) kept

theorem State.commitGen_unitSound {s : State} {old new : Bank} (wasLost : Bool) (g : Fin 8) (act : s.act = new)
    {u : UnitRef} (sound : s.UnitSound u) : (s.commitGen old new wasLost g).UnitSound u := by
  obtain ⟨-, acts⟩ | ⟨-, -, moves⟩ | same := State.commitGen_cases (old := old) wasLost g act
  · have reset : (s.modGen g fun _ => GenJob.reset).UnitSound u := fun off => State.modGen_atReset g (sound off)
    exact (State.Moves.of_aside acts).unitSound reset
  · exact moves.moves.unitSound sound
  · rwa [same]

theorem State.commitPv_removed (s : State) {old new : Bank} {b : Fin 16} (removed : removedBy old new (.pv b) = true) :
    (s.commitPv old new b).AtReset (.pv b) := by
  simp only [removedBy, Bool.and_eq_true, Bool.not_eq_true'] at removed
  simp [State.commitPv, removed, State.AtReset]

theorem State.commitGen_removed (s : State) {old new : Bank} (wasLost : Bool) {g : Fin 8}
    (removed : removedBy old new (.genset g) = true) : (s.commitGen old new wasLost g).AtReset (.genset g) := by
  rw [State.commitGen, if_pos removed]
  exact State.modGen_gen _ g _

theorem State.commitFdr_removed (s : State) {old new : Bank} {i : Fin 32}
    (removed : removedBy old new (.feeder i) = true) : (s.commitFdr old new i).AtReset (.feeder i) := by
  simp only [removedBy, Bool.and_eq_true, Bool.not_eq_true'] at removed
  simp [State.commitFdr, removed, State.AtReset, State.unstack]

theorem State.committedSlots_unitSound {s : State} (units : s.UnitsSound) {u : UnitRef}
    (stays : ¬ removedBy s.bank.active s.bank.shadow u = true) : s.committedSlots.UnitSound u := by
  intro off
  rw [State.committedSlots_act] at off
  have before : s.bank.active.configured u = false := by simpa [removedBy, off] using stays
  exact (ActsOn.committedSlots s).rests u nofun (s.unitsSound_iff.mp units u before)

theorem State.committedPvs_unitSound {s : State} (units : s.UnitsSound) (b : Fin 16) :
    s.committedPvs.UnitSound (.pv b) := by
  by_cases removed : removedBy s.bank.active s.bank.shadow (.pv b) = true
  · exact forEach_reaches (P := (State.UnitSound · (.pv b))) _ pvBlocks
      (fun c x => (State.Moves.commitPv x _ _ c).unitSound) b (List.mem_finRange b)
      (fun x _ => x.commitPv_removed removed) _
  · exact (State.Moves.committedPvs s).unitSound (State.committedSlots_unitSound units removed)

theorem State.committedPvs_act (s : State) : s.committedPvs.act = s.bank.shadow :=
  (State.Moves.committedPvs s).act.trans s.committedSlots_act

theorem State.commitGen_visit {s : State} {u : UnitRef} (g : Fin 8) (x : State)
    (sound : x.act = s.bank.shadow → x.UnitSound u)
    (act : (x.commitGen s.bank.active s.bank.shadow (s.genLost g) g).act = s.bank.shadow) :
    (x.commitGen s.bank.active s.bank.shadow (s.genLost g) g).UnitSound u := by
  rw [State.commitGen_act] at act
  exact State.commitGen_unitSound _ g act (sound act)

theorem State.committedGens_act (s : State) : s.committedGens.act = s.bank.shadow :=
  (forEach_keeps State.act _ gensets (fun g _ x => x.commitGen_act _ _ _ g) _).trans s.committedPvs_act

theorem State.committedGens_unitSound_of_pvs {s : State} {u : UnitRef} (sound : s.committedPvs.UnitSound u) :
    s.committedGens.UnitSound u :=
  forEach_preserves (P := fun x => x.act = s.bank.shadow → x.UnitSound u) _ gensets
    (fun g _ x => State.commitGen_visit g x) _ (fun _ => sound) s.committedGens_act

theorem State.committedGens_unitSound {s : State} (units : s.UnitsSound) (g : Fin 8) :
    s.committedGens.UnitSound (.genset g) := by
  by_cases removed : removedBy s.bank.active s.bank.shadow (.genset g) = true
  · exact forEach_reaches (P := fun x => x.act = s.bank.shadow → x.UnitSound (.genset g)) _ gensets
      (fun k x => State.commitGen_visit k x) g (mem_gensets g)
      (fun x _ _ => x.commitGen_removed _ removed) _ s.committedGens_act
  · exact State.committedGens_unitSound_of_pvs
      ((State.Moves.committedPvs s).unitSound (State.committedSlots_unitSound units removed))

theorem State.committedFdrs_unitSound_of_gens {s : State} {u : UnitRef} (sound : s.committedGens.UnitSound u) :
    s.committedFdrs.UnitSound u :=
  ((State.Moves.committedStarts s).trans (.committedFdrs s)).unitSound sound

theorem State.committedFdrs_unitSound_feeder {s : State} (units : s.UnitsSound) (i : Fin 32) :
    s.committedFdrs.UnitSound (.feeder i) := by
  by_cases removed : removedBy s.bank.active s.bank.shadow (.feeder i) = true
  · exact forEach_reaches (P := (State.UnitSound · (.feeder i))) _ feeders
      (fun k x => (State.Moves.commitFdr x _ _ k).unitSound) i (List.mem_finRange i)
      (fun x _ => x.commitFdr_removed removed) _
  · exact State.committedFdrs_unitSound_of_gens (State.committedGens_unitSound_of_pvs
      ((State.Moves.committedPvs s).unitSound (State.committedSlots_unitSound units removed)))

theorem State.committedFdrs_unitsSound {s : State} (units : s.UnitsSound) : s.committedFdrs.UnitsSound := by
  refine s.committedFdrs.unitsSound_iff.mpr fun u => ?_
  cases u with
  | genset g => exact State.committedFdrs_unitSound_of_gens (State.committedGens_unitSound units g)
  | pv b =>
    exact State.committedFdrs_unitSound_of_gens
      (State.committedGens_unitSound_of_pvs (State.committedPvs_unitSound units b))
  | feeder i => exact State.committedFdrs_unitSound_feeder units i
  | busmeter => exact fun _ => trivial

/-! ## After the commit -/

theorem endStarts_slotsSound (n : Nat) (s : State) (units : ∀ g, s.UnitSound (.genset g)) (slots : s.SlotsSound) :
    (endStarts n s).SlotsSound := by
  induction n generalizing s with
  | zero => exact slots
  | succ n ih =>
    obtain ⟨within, -⟩ | ⟨g, starting, next⟩ := endStarts_cases n s
    · rwa [within]
    · have move := (State.Calms.endStart s g starting).move (State.inUse_of_starting starting)
      rw [next]
      exact ih _ (fun k => move.unitSound (units k))
        (move.slotsSound (fun u e => Option.some.inj e ▸ units g) slots)

theorem State.commitEffect_unitsSound {s : State} (units : s.UnitsSound) : s.commitEffect.UnitsSound :=
  (State.Moves.commitRest s).unitsSound (State.committedFdrs_unitsSound units)

theorem State.commitEffect_slotsSound {s : State} (units : s.UnitsSound) (slots : s.SlotsSound) :
    s.commitEffect.SlotsSound := by
  have started : s.committedStarts.SlotsSound :=
    endStarts_slotsSound 8 _ (State.committedGens_unitSound units) (State.committing_gens units slots).slots
  exact (State.Moves.commitRest s).slotsSound (State.committedFdrs_unitsSound units)
    (started.of_same s.committedFdrs_same)

/-- A commit begins no insertion, and its sets enter LOCKOUT, if at all, through the moves that follow it. -/
theorem State.commitEffect_locksStarts {s : State} (units : s.UnitsSound) (slots : s.SlotsSound) :
    s.LocksStarts s.commitEffect := by
  have rest := ((State.Moves.committedStarts s).trans (.committedFdrs s)).trans (.commitRest s)
  exact (State.committing_gens units slots).locks.trans rest.locksStarts rest.act

end Sys2Proof.Machine
end

section
/-! SUPPORT. The law of R95: no set in LOCKOUT is sent a START. -/

namespace Sys2Proof.Machine

/-! ## The law of R95 -/

theorem OrderCode.code_eq_start_iff (c : OrderCode) : c.code = OrderCode.start.code ↔ c = .start := by
  cases c <;> decide

/-- The ORDER frame of a slot bears the slot's code. -/
theorem OrderSlot.frame_orderCode (o : OrderSlot) (own a : Addr) : (o.frame own a).orderCode = o.code.code := rfl

theorem State.modPort_inserting {s : State} {p q : Port} {tx : Tx} {r : EntryRef} {f : Frame} {x : Bool}
    (h : ((s.modPort p fun y => { y with tx := tx }).port q).tx = .inserting r f x) :
    tx = .inserting r f x ∨ (s.port q).tx = .inserting r f x := by
  cases p <;> cases q
  · exact .inl h
  · exact .inr h
  · exact .inr h
  · exact .inl h

theorem State.SlotsSound.lockout {s : State} (slots : s.SlotsSound) {g : Fin 8}
    (locked : (s.gen g).state = .lockout) :
    (s.gen g).order ≠ .start ∧ ∀ a, s.act.stationOf (.genset g) = some a → ∀ o ∈ s.slot a, o.code ≠ .start := by
  obtain ⟨-, agrees, starts⟩ := slots
  have order : (s.gen g).order ≠ .start := fun e => by cases locked.symm.trans (starts g e)
  exact ⟨order, fun a station o waits e => order ((agrees g a station o waits).symm.trans e)⟩

/-- An insertion that begins for the station of a set is of the order that waits there. -/
theorem State.opportunity_locksStarts {s : State} (p : Port) (slots : s.SlotsSound) :
    s.LocksStarts (s.opportunity p) := by
  obtain passed | ⟨own, r, f, made, begun⟩ := s.opportunity_cases p
  · rw [passed]
    exact (State.Moves.refl s).locksStarts
  obtain ⟨bank, seq, -⟩ := s.opportunity_jobs p
  have act : (s.opportunity p).act = s.act := congrArg (·.active) bank
  intro g locked before q a h stale station inserts
  have locked : (s.gen g).state = .lockout := by simpa only [State.gen, seq] using locked
  obtain ⟨-, silent⟩ := before locked
  rw [act] at station
  rw [begun] at inserts
  obtain new | old := State.modPort_inserting inserts
  · cases new
    obtain ⟨o, waits, rfl⟩ := Option.map_eq_some_iff.mp made
    rw [OrderSlot.frame_orderCode, ne_eq, OrderCode.code_eq_start_iff]
    exact (slots.lockout locked).2 a station o waits
  · exact silent q a h stale station old

theorem State.opportunity_unitsSound {s : State} (p : Port) (units : s.UnitsSound) : (s.opportunity p).UnitsSound := by
  obtain ⟨bank, seq, cur, shed, -⟩ := s.opportunity_jobs p
  simpa only [State.UnitsSound, State.genCfg, State.pvCfg, State.fdrCfg, State.act, State.gen, State.pv, State.fdr,
    bank, seq, cur, shed] using units

theorem State.opportunity_slotsSound {s : State} (p : Port) (slots : s.SlotsSound) : (s.opportunity p).SlotsSound := by
  obtain ⟨bank, seq, -, -, orders⟩ := s.opportunity_jobs p
  exact slots.of_same ⟨bank, seq, orders⟩

namespace State.Cleared

theorem gen {s : State} (h : s.Cleared) (g : Fin 8) : s.gen g = GenJob.reset := h.1 (.genset g)

theorem unitsSound {s : State} (h : s.Cleared) : s.UnitsSound := s.unitsSound_iff.mpr fun u _ => h.1 u

theorem slotsSound {s : State} (h : s.Cleared) : s.SlotsSound := by
  have empty := h.2
  refine s.slotsSound_iff.mpr ⟨fun a ha => absurd (empty a) ha, fun g a _ o waits => ?_, fun g e => ?_⟩
  · cases (empty a).symm.trans waits
  · rw [h.gen] at e
    cases e

theorem locksStarts {s t : State} (h : t.Cleared) : s.LocksStarts t := by
  intro g locked
  rw [h.gen] at locked
  cases locked

end State.Cleared

theorem exec_unitsSound {c : Instr} {s t : State} (step : exec c s = .next t) (units : s.UnitsSound) :
    t.UnitsSound := by
  obtain moves | ⟨p, rfl⟩ | cleared | ⟨d, moves⟩ := exec_cases step
  · exact moves.unitsSound units
  · exact State.opportunity_unitsSound p units
  · exact cleared.unitsSound
  · exact moves.unitsSound (State.commitEffect_unitsSound (s := s.at d) units)

theorem exec_slotsSound {c : Instr} {s t : State} (step : exec c s = .next t) (units : s.UnitsSound)
    (slots : s.SlotsSound) : t.SlotsSound := by
  obtain moves | ⟨p, rfl⟩ | cleared | ⟨d, moves⟩ := exec_cases step
  · exact moves.slotsSound units slots
  · exact State.opportunity_slotsSound p slots
  · exact cleared.slotsSound
  · exact moves.slotsSound (State.commitEffect_unitsSound (s := s.at d) units)
      (State.commitEffect_slotsSound (s := s.at d) units slots)

theorem exec_locksStarts {c : Instr} {s t : State} (step : exec c s = .next t) (units : s.UnitsSound)
    (slots : s.SlotsSound) : s.LocksStarts t := by
  obtain moves | ⟨p, rfl⟩ | cleared | ⟨d, moves⟩ := exec_cases step
  · exact moves.locksStarts
  · exact State.opportunity_locksStarts p slots
  · exact cleared.locksStarts
  · have committed : s.LocksStarts (s.at d).commitEffect :=
      State.commitEffect_locksStarts (s := s.at d) units slots
    exact committed.trans moves.locksStarts moves.act

/-- Settles O49: a set comes to LOCKOUT by moves that take START off it and cut its insertion, and no later move,
insertion or commit sends it another. -/
theorem lockoutIsSentNoStart : Obligations.LockoutIsSentNoStart := by
  intro c s t step units
  refine ⟨exec_unitsSound step units, fun slots => ?_⟩
  have sound := exec_slotsSound step units slots
  exact ⟨sound, fun g => sound.lockout, exec_locksStarts step units slots⟩

end Sys2Proof.Machine
end

section
/-! SUPPORT. The firing of an underfrequency stage (R116). -/

namespace Sys2Proof.Machine

/-- What the stages up to `n` are to shed, stage by stage (R116). -/
theorem Bank.stageAmounts_eq (b : Bank) (n : Fin 6) :
    (b.stageAmounts n : Int) = (stageNumbers.map fun k =>
      if k ≤ n ∧ b.stages[k].enabled = true then (b.stages[k].amount : Int) else 0).sum := by
  have amounts := sumOver_eq_sum_ite stageNumbers (fun k => k ≤ n && b.stages[k].enabled) fun k => b.stages[k].amount
  simp only [sumOver, Bool.and_eq_true, decide_eq_true_eq] at amounts
  rw [Bank.stageAmounts, amounts, Nat.cast_list_sum, List.map_map]
  refine congrArg List.sum (List.map_congr_left fun k _ => ?_)
  exact Nat.cast_ite _ _ _

/-- The stage stands FIRED, and its flag is raised; no demand is made yet. -/
def State.markFired (s : State) (n : Fin 6) : State :=
  State.raise { s with shed := { s.shed with stages := put s.shed.stages n ⟨.fired, none⟩ } } .ufStageFired

theorem State.fireStage_eq (s : State) (n : Fin 6) :
    s.fireStage n =
      if 0 < (s.act.stageAmounts n : Int) - s.shed.shedEvent then
        (s.markFired n).demand ((s.act.stageAmounts n : Int) - s.shed.shedEvent) (.stage n)
      else s.markFired n := by
  obtain ⟨-, -, -, shed, -⟩ := State.raise_jobs
    { s with shed := { s.shed with stages := put s.shed.stages n ⟨.fired, none⟩ } } .ufStageFired
  have act : (s.markFired n).act = s.act := congrArg (·.bank.active) (State.raise_kept _ _)
  have event : (s.markFired n).shed.shedEvent = s.shed.shedEvent := congrArg (·.shedEvent) shed
  simp only [← not_le, ite_not]
  rw [← act, ← event]
  rfl

/-- Settles O33: the amounts of the stages up to the fired one are counted before the demand, from the stages and
the bank that neither the mark nor the flag changes. -/
theorem armedStagesFire : Obligations.ArmedStagesFire := by
  intro s n q owed
  rw [← Bank.stageAmounts_eq] at owed
  refine ⟨⟨s.markFired n, ?_, ?_⟩, fun d armed => ?_⟩
  · rw [State.fireStage_eq, owed]
  · obtain ⟨bal, cur, seq, shed, bs⟩ := State.raise_jobs
      { s with shed := { s.shed with stages := put s.shed.stages n ⟨.fired, none⟩ } } .ufStageFired
    exact ⟨State.raise_kept _ _, shed, State.raise_sum _ _, State.raise_slot _ _, bal, cur, seq, bs⟩
  · simp [exec, execStageDelayExpiry, State.delayExpiry, armed]

end Sys2Proof.Machine
end

section
/-! SUPPORT. The shed stack beside the states of the feeders (R123): what each operation of the shedding unit does to
the two. -/

namespace Sys2Proof.Machine

/-! ## Stack and states -/

/-- The feeders on the shed stack from the top down, and the state of every feeder. -/
@[ext] structure StackView where
  stack : List (Fin 32)
  state : Fin 32 → FdrState

namespace StackView

/-- The law of R123. -/
def Lawful (v : StackView) : Prop := v.stack.Nodup ∧ ∀ f, f ∈ v.stack ↔ (v.state f).stacked = true

/-- The stack is empty, and no feeder is in a state of the stack. -/
def Empty (v : StackView) : Prop := v.stack = [] ∧ ∀ f, (v.state f).stacked = false

/-- Feeder `i` takes the state `x`. -/
def set (v : StackView) (i : Fin 32) (x : FdrState) : StackView := ⟨v.stack, Function.update v.state i x⟩

/-- Feeder `i` is taken out of the stack. -/
def drop (v : StackView) (i : Fin 32) : StackView := ⟨v.stack.filter (· != i), v.state⟩

/-- Feeder `i` is put on top of the stack. -/
def push (v : StackView) (i : Fin 32) : StackView := ⟨i :: v.stack, v.state⟩

@[simp] theorem set_self (v : StackView) (i : Fin 32) : v.set i (v.state i) = v := by
  simp [set]

@[simp] theorem set_state (v : StackView) (i : Fin 32) (x : FdrState) : (v.set i x).state i = x := by
  simp [set]

theorem drop_set (v : StackView) (i : Fin 32) (x : FdrState) : (v.set i x).drop i = (v.drop i).set i x := rfl

theorem Empty.lawful {v : StackView} (h : v.Empty) : v.Lawful := by
  obtain ⟨stack, state⟩ := h
  simp [Lawful, stack, state]

theorem Empty.set {v : StackView} (h : v.Empty) (i : Fin 32) {x : FdrState} (off : x.stacked = false) :
    (v.set i x).Empty := by
  obtain ⟨stack, state⟩ := h
  refine ⟨stack, fun f => ?_⟩
  by_cases e : f = i
  · simp [e, off]
  · simp [StackView.set, e, state]

/-- A feeder that stays on the stack, or off it. -/
theorem Lawful.set {v : StackView} (h : v.Lawful) {i : Fin 32} {x : FdrState}
    (same : x.stacked = (v.state i).stacked) : (v.set i x).Lawful := by
  obtain ⟨distinct, stands⟩ := h
  refine ⟨distinct, fun f => ?_⟩
  by_cases e : f = i
  · simp [e, same, StackView.set, stands]
  · simp [StackView.set, e, stands]

/-- A feeder that leaves the stack, and the states of the stack. -/
theorem Lawful.drop_set {v : StackView} (h : v.Lawful) (i : Fin 32) {x : FdrState} (off : x.stacked = false) :
    ((v.drop i).set i x).Lawful := by
  obtain ⟨distinct, stands⟩ := h
  refine ⟨distinct.filter _, fun f => ?_⟩
  by_cases e : f = i
  · simp [e, off, StackView.set, drop]
  · simp [StackView.set, drop, e, stands]

/-- A feeder that joins the stack. -/
theorem Lawful.push_set {v : StackView} (h : v.Lawful) {i : Fin 32} {x : FdrState}
    (below : (v.state i).stacked = false) (on : x.stacked = true) : ((v.set i x).push i).Lawful := by
  obtain ⟨distinct, stands⟩ := h
  have absent : i ∉ v.stack := by simp [stands, below]
  refine ⟨List.nodup_cons.mpr ⟨absent, distinct⟩, fun f => ?_⟩
  by_cases e : f = i
  · simp [e, on, StackView.set, push]
  · simp [StackView.set, push, e, stands]

end StackView

/-- What the law of the shed stack reads of a state. -/
def State.stackView (s : State) : StackView := ⟨s.shed.stack.map (·.feeder), fun f => (s.fdr f).state⟩

theorem State.stackLaw_iff (s : State) : s.StackLaw ↔ s.stackView.Lawful := by
  simp [StackView.Lawful, State.stackView, feeders]

theorem State.stackView_of_shed {s t : State} (h : t.shed = s.shed) : t.stackView = s.stackView := by
  simp only [State.stackView, State.fdr, h]

/-! ## The operations on one feeder -/

namespace State

@[simp] theorem stackView_state (s : State) (i : Fin 32) : s.stackView.state i = (s.fdr i).state := rfl

theorem modFdr_stackView (s : State) (i : Fin 32) (f : FdrJob → FdrJob) :
    (s.modFdr i f).stackView = s.stackView.set i (f (s.fdr i)).state := by
  refine StackView.ext rfl (funext fun k => ?_)
  by_cases e : k = i
  · subst e
    simp
  · simp [StackView.set, e]

/-- A change of a feeder's record that is not of its state. -/
theorem modFdr_stackView_same (s : State) (i : Fin 32) (f : FdrJob → FdrJob)
    (h : (f (s.fdr i)).state = (s.fdr i).state) : (s.modFdr i f).stackView = s.stackView := by
  rw [modFdr_stackView, h, ← stackView_state, StackView.set_self]

@[simp] theorem raise_stackView (s : State) (f : Flag) : (s.raise f).stackView = s.stackView :=
  stackView_of_shed (congrArg (·.2.2.1) (s.raise_outsideSeq f))

@[simp] theorem placeFor_stackView (s : State) (u : UnitRef) (code : OrderCode) (tag : Byte) (cap : Nat)
    (cls : OrderClass) : (s.placeFor u code tag cap cls).stackView = s.stackView :=
  stackView_of_shed (congrArg (·.2.2.1) (s.placeFor_outsideSeq u code tag cap cls))

@[simp] theorem emptyFor_stackView (s : State) (u : UnitRef) : (s.emptyFor u).stackView = s.stackView :=
  stackView_of_shed (congrArg (·.2.2.1) (s.emptyFor_outsideSeq u))

@[simp] theorem setFdrState_stackView (s : State) (i : Fin 32) (x : FdrState) :
    (s.setFdrState i x).stackView = s.stackView.set i x := modFdr_stackView s i _

@[simp] theorem stopConfirm_stackView (s : State) (i : Fin 32) : (s.stopConfirm i).stackView = s.stackView :=
  modFdr_stackView_same s i _ rfl

@[simp] theorem startConfirm_stackView (s : State) (i : Fin 32) : (s.startConfirm i).stackView = s.stackView :=
  modFdr_stackView_same s i _ rfl

@[simp] theorem fdrNone_stackView (s : State) (i : Fin 32) : (s.fdrNone i).stackView = s.stackView :=
  (emptyFor_stackView _ _).trans (modFdr_stackView_same s i _ rfl)

@[simp] theorem fdrOrder_stackView (s : State) (i : Fin 32) (code : OrderCode) (cls : OrderClass) :
    (s.fdrOrder i code cls).stackView = s.stackView :=
  (placeFor_stackView _ _ _ _ _ _).trans (modFdr_stackView_same s i _ rfl)

@[simp] theorem unstack_stackView (s : State) (i : Fin 32) : (s.unstack i).stackView = s.stackView.drop i :=
  StackView.ext (by simp [stackView, unstack, StackView.drop, List.filter_map, Function.comp_def]) rfl

/-- A change of the shedding unit beside the stack and the records of the feeders. -/
theorem stackView_of_same {s t : State} (stack : t.shed.stack = s.shed.stack) (jobs : t.shed.jobs = s.shed.jobs) :
    t.stackView = s.stackView := by
  simp only [stackView, fdr, stack, jobs]

@[simp] theorem takeFeeder_stackView (s : State) (i : Fin 32) (reason : ShedReason) :
    (s.takeFeeder i reason).stackView = (s.stackView.set i .shedPending).push i := by
  have ordered : (((s.setFdrState i .shedPending).fdrOrder i .open .urgent).startConfirm i).stackView =
      s.stackView.set i .shedPending := by simp
  exact congrArg (StackView.push · i) ordered

@[simp] theorem endWalk_stackView (s : State) (reason : ShedReason) (short took : Bool) :
    (s.endWalk reason short took).stackView = s.stackView := by
  simp [endWalk, apply_ite stackView]

@[simp] theorem externalClose_stackView (s : State) (i : Fin 32) :
    (s.externalClose i).stackView = s.stackView.set i .closed := by
  simp [externalClose]

@[simp] theorem stick_stackView (s : State) (i : Fin 32) : (s.stick i).stackView = s.stackView.set i .stuck := by
  simp [stick]

@[simp] theorem discardEntry_stackView (s : State) (e : StackEntry) :
    (s.discardEntry e).stackView = s.stackView.set e.feeder (s.reportedState e.feeder) := by
  simp [discardEntry]

@[simp] theorem holdOpen_stackView (s : State) (i : Fin 32) :
    (s.holdOpen i).stackView = s.stackView.set i .heldOpen :=
  (modFdr_stackView_same _ i _ rfl).trans (by simp)

/-- The echo judges the standing order alone (R112). -/
@[simp] theorem fdrEcho_stackView (s : State) (i : Fin 32) (v : FdrValues) :
    (s.fdrEcho i v).stackView = s.stackView := by
  have taken := modFdr_stackView_same s i (fun j => { j with taken := true, unanswered := false, sendCount := 0 }) rfl
  have resent := modFdr_stackView_same s i
    (fun j => { j with sendCount := j.sendCount + 1, lastSend := some s.clock }) rfl
  have unanswered := modFdr_stackView_same s i (fun j => { j with unanswered := true }) rfl
  simp only [fdrEcho, apply_ite stackView, taken, placeFor_stackView, resent, raise_stackView, unanswered, ite_self]

theorem reportedState_stacked (s : State) (i : Fin 32) : (s.reportedState i).stacked = false := by
  unfold reportedState
  split <;> rfl

/-- A feeder on the stack has an entry there. -/
theorem entryOf_ne_none {s : State} (law : s.StackLaw) {i : Fin 32} (stacked : (s.fdr i).state.stacked = true) :
    s.entryOf i ≠ none := by
  obtain ⟨-, stands⟩ := law
  obtain ⟨e, he, rfl⟩ := List.mem_map.mp ((stands i (List.mem_finRange i)).mpr stacked)
  exact fun none => by simpa using List.find?_eq_none.mp none e he

end State

end Sys2Proof.Machine
end

section
/-! SUPPORT. The operations of the shedding unit keep the law of the shed stack (R123). -/

namespace Sys2Proof.Machine

/-- What leads from `s` to `t` keeps the law of the shed stack. -/
def State.KeepsStack (s t : State) : Prop := s.StackLaw → t.StackLaw

namespace State.KeepsStack

theorem refl (s : State) : s.KeepsStack s := id

theorem trans {s t u : State} (h : s.KeepsStack t) (k : t.KeepsStack u) : s.KeepsStack u := k ∘ h

theorem ite {c : Prop} [Decidable c] {s t u : State} (h : c → s.KeepsStack t) (k : ¬ c → s.KeepsStack u) :
    s.KeepsStack (if c then t else u) := by
  split
  next hc => exact h hc
  next hc => exact k hc

theorem forEach {ι : Type} (f : ι → State → State) (visit : ∀ i t, State.KeepsStack t (f i t)) (is : List ι)
    (s : State) : s.KeepsStack (forEach is f s) :=
  forEach_preserves f is (fun i _ t => visit i t) s

/-! ## Steps of the stack -/

theorem of_lawful {s t : State} (h : s.stackView.Lawful → t.stackView.Lawful) : s.KeepsStack t := fun law =>
  t.stackLaw_iff.mpr (h (s.stackLaw_iff.mp law))

theorem of_view {s t : State} (h : t.stackView = s.stackView) : s.KeepsStack t := of_lawful fun law => h ▸ law

theorem of_shed {s t : State} (h : t.shed = s.shed) : s.KeepsStack t := of_view (stackView_of_shed h)

theorem of_seq {s t : State} (h : t.outsideSeq = s.outsideSeq) : s.KeepsStack t := of_shed (congrArg (·.2.2.1) h)

theorem of_curtail {s t : State} (h : t.outsideCurtail = s.outsideCurtail) : s.KeepsStack t :=
  of_shed (congrArg (·.2.1) h)

/-- A feeder changes its state and stays on the stack, or off it. -/
theorem of_set {s t : State} {i : Fin 32} {x : FdrState} (view : t.stackView = s.stackView.set i x)
    (same : x.stacked = (s.fdr i).state.stacked) : s.KeepsStack t :=
  of_lawful fun law => view ▸ law.set same

/-- A feeder leaves the stack. -/
theorem of_drop {s t : State} {i : Fin 32} {x : FdrState} (view : t.stackView = (s.stackView.drop i).set i x)
    (off : x.stacked = false) : s.KeepsStack t :=
  of_lawful fun law => view ▸ law.drop_set i off

theorem raise (s : State) (f : Flag) : s.KeepsStack (s.raise f) := of_view (s.raise_stackView f)

/-! ## Demands (R116, R120, R122) -/

/-- A walk takes feeders that are CLOSED, so not on the stack (R122). -/
theorem walk (q : Int) (reason : ShedReason) (is : List (Fin 32)) (sum : Int) (took : Bool) (s : State) :
    s.KeepsStack (walk q reason is sum took s) := by
  induction is generalizing sum took s with
  | nil => exact of_view (s.endWalk_stackView reason _ took)
  | cons i is ih =>
    refine ite (fun _ => of_view (s.endWalk_stackView reason _ took)) fun _ => ite (fun takes => ?_) fun _ => ih _ _ _
    have closed : (s.fdr i).state = .closed := beq_iff_eq.mp (Bool.and_eq_true_iff.mp takes).1
    have taken : s.KeepsStack (s.takeFeeder i reason) := of_lawful fun law => by
      rw [takeFeeder_stackView]
      exact law.push_set (by rw [stackView_state, closed]; rfl) rfl
    exact taken.trans (ih _ _ _)

theorem demand (s : State) (q : Int) (reason : ShedReason) : s.KeepsStack (s.demand q reason) :=
  walk q reason _ 0 false s

theorem reducedDemand (s : State) (q : Int) (reason : ShedReason) : s.KeepsStack (s.reducedDemand q reason) :=
  ite (fun _ => refl s) fun _ => demand s _ reason

theorem markFired (s : State) (n : Fin 6) : s.KeepsStack (s.markFired n) := of_view (raise_stackView _ _)

theorem fireStage (s : State) (n : Fin 6) : s.KeepsStack (s.fireStage n) := by
  rw [State.fireStage_eq]
  exact ite (fun _ => (markFired s n).trans (demand _ _ _)) fun _ => markFired s n

/-! ## Bus reports (R115, R119, R124, R125) -/

theorem judgeRecovery (s : State) (d : Int) : s.KeepsStack (s.judgeRecovery d) := by
  refine ite (fun _ => refl s) fun _ => ite (fun _ => ?_) fun _ => of_view rfl
  split
  · exact refl s
  · exact ite (fun _ => of_view rfl) fun _ => of_view rfl

theorem judgeDwell (s : State) (d : Int) : s.KeepsStack (s.judgeDwell d) :=
  ite (fun _ => ite (fun _ => of_view rfl) fun _ => refl s) fun _ => of_view rfl

/-- The top feeder goes from SHED to RESTORING on the stack (R125). -/
theorem judgeRestore (s : State) : s.KeepsStack s.judgeRestore := by
  unfold State.judgeRestore
  split
  · exact refl s
  next e _ _ =>
    refine ite (fun may => ?_) fun _ => refl s
    have shed : (s.fdr e.feeder).state = .shed := by
      simp only [State.mayRestore, Bool.and_eq_true, beq_iff_eq] at may
      obtain ⟨⟨⟨⟨⟨-, shed⟩, -⟩, -⟩, -⟩, -⟩ := may
      exact shed
    have ordered : (((s.setFdrState e.feeder .restoring).fdrOrder e.feeder .close .routine).startConfirm
        e.feeder).stackView = s.stackView.set e.feeder .restoring := by simp
    exact (of_set ordered (by rw [shed]; rfl)).trans (of_view rfl)

theorem shedBusTap (s : State) (d : Int) : s.KeepsStack (s.shedBusTap d) := by
  refine ite (fun _ => refl s) fun _ => ?_
  extract_lets t u v
  have judged : s.KeepsStack t := of_view rfl
  have begun : t.KeepsStack u := ite (fun _ => of_view rfl) fun _ => refl t
  have fired : u.KeepsStack v := forEach _ (fun n x => ite (fun _ => fireStage x n) fun _ => refl x) stageNumbers u
  exact ((((judged.trans begun).trans fired).trans (judgeRecovery v d)).trans (judgeDwell _ d)).trans (judgeRestore _)

/-! ## Feeder reports (R113) -/

theorem fdrShowsOpen (s : State) (i : Fin 32) : s.KeepsStack (s.fdrShowsOpen i) := by
  unfold State.fdrShowsOpen
  split
  next closed => exact of_set (s.setFdrState_stackView i _) (by rw [closed]; rfl)
  next pending =>
    exact of_set ((stopConfirm_stackView _ i).trans (s.setFdrState_stackView i .shed)) (by rw [pending]; rfl)
  next => exact of_view (modFdr_stackView_same s i _ rfl)
  next => exact of_view (modFdr_stackView_same s i _ rfl)
  next stuck => exact of_set (s.setFdrState_stackView i _) (by rw [stuck]; rfl)
  next => exact refl s

theorem fdrShowsClosed (s : State) (i : Fin 32) : s.KeepsStack (s.fdrShowsClosed i) := by
  have closes (t : State) (view : t.stackView = s.stackView.set i .closed)
      (held : (s.fdr i).state.stacked = false) : s.KeepsStack t := of_set view held.symm
  unfold State.fdrShowsClosed
  split
  next other => exact closes _ (by simp) (by rw [other]; rfl)
  next => exact of_drop (x := .closed) (i := i) (by simp) rfl
  next => exact of_drop (x := .closed) (i := i) (by simp [StackView.drop_set]) rfl
  next held _ => exact ite (fun _ => closes _ (by simp) (by rw [held]; rfl)) fun _ => refl s
  next held _ => exact closes _ (by simp) (by rw [held]; rfl)
  next held _ => exact closes _ (by simp) (by rw [held]; rfl)
  next => exact refl s

theorem shedFdrTap (s : State) (i : Fin 32) : s.KeepsStack (s.shedFdrTap i) := by
  unfold State.shedFdrTap
  split
  · exact refl s
  next v _ =>
    refine .trans (ite (fun _ => refl s) fun _ => ?_) (of_view (fdrEcho_stackView _ i v))
    split
    · exact fdrShowsOpen s i
    · exact fdrShowsClosed s i

/-! ## The confirm timer (R114) -/

theorem reShed (s : State) (e : StackEntry) : s.KeepsStack (s.reShed e) := by
  have lowered : s.KeepsStack (if s.shed.ufActive then
      { s with shed := { s.shed with shedEvent := s.shed.shedEvent - e.load } } else s) :=
    ite (fun _ => of_view rfl) fun _ => refl s
  exact lowered.trans (demand _ _ _)

/-- A feeder that is not confirmed leaves the stack as it becomes STUCK; a HELD_OPEN one is not on it. -/
theorem confirmExpiry (s : State) (i : Fin 32) : s.KeepsStack (s.confirmExpiry i) := by
  have leaves : s.KeepsStack ((s.unstack i).stick i) := of_drop (x := .stuck) (i := i) (by simp) rfl
  unfold State.confirmExpiry
  split
  next pending =>
    split
    next none => exact fun law => absurd none (entryOf_ne_none law (by rw [pending]; rfl))
    next => exact leaves.trans (reShed _ _)
  next => exact leaves
  next held _ => exact of_set (s.stick_stackView i) (by rw [held]; rfl)
  next => exact of_view (s.stopConfirm_stackView i)

/-! ## Modes, blackout, black start, survey (R127 to R130) -/

theorem withdraw (s : State) (codes : List OrderCode) : s.KeepsStack (s.withdraw codes) :=
  of_seq (s.withdraw_outsideSeq codes)

theorem withdrawClose (s : State) (i : Fin 32) : s.KeepsStack (s.withdrawClose i) := by
  refine ite (fun _ => refl s) fun _ => ?_
  split
  next restoring => exact of_set (i := i) (x := .shed) (by simp) (by rw [restoring]; rfl)
  next => exact of_view (by simp)
  all_goals exact refl s

theorem shedEnterCommissioning (s : State) : s.KeepsStack s.shedEnterCommissioning :=
  (withdraw s _).trans (forEach _ (fun i t => withdrawClose t i) feeders _)

end State.KeepsStack

/-- Every feeder of a state of the stack has an entry in `es`, and is put in a state off the stack as its entry is
discarded (R128). -/
theorem State.discardEntries_off (es : List StackEntry) (s : State)
    (entries : ∀ f, (s.fdr f).state.stacked = true → f ∈ es.map (·.feeder)) (f : Fin 32) :
    ((forEach es (fun e t => t.discardEntry e) s).fdr f).state.stacked = false := by
  unfold forEach
  induction es generalizing s with
  | nil => exact Bool.not_eq_true _ ▸ fun stacked => by simpa using entries f stacked
  | cons e es ih =>
    refine ih (s.discardEntry e) fun k stacked => ?_
    rw [← State.stackView_state, State.discardEntry_stackView] at stacked
    have other : k ≠ e.feeder := by
      rintro rfl
      rw [StackView.set_state, State.reportedState_stacked] at stacked
      cases stacked
    have before : (s.fdr k).state.stacked = true := by simpa [StackView.set, other] using stacked
    exact (List.mem_cons.mp (entries k before)).resolve_left other

/-- The stack is emptied, and its feeders leave its states (R128). -/
theorem State.emptyStack_empty {s : State} (law : s.StackLaw) : s.emptyStack.stackView.Empty := by
  obtain ⟨-, stands⟩ := law
  exact ⟨rfl, State.discardEntries_off _ s fun f stacked => (stands f (List.mem_finRange f)).mpr stacked⟩

namespace State.KeepsStack

/-- A walk over the feeders after the stack has been emptied, which puts none in a state of the stack. -/
theorem emptyStack_then (s : State) (f : Fin 32 → State → State)
    (visit : ∀ i (t : State), t.stackView.Empty → (f i t).stackView.Empty) :
    s.KeepsStack (Machine.forEach feeders f s.emptyStack) := fun law =>
  (State.stackLaw_iff _).mpr (forEach_preserves (P := fun t => t.stackView.Empty) f feeders
    (fun i _ => visit i) _ (emptyStack_empty law)).lawful

theorem emptyStack (s : State) : s.KeepsStack s.emptyStack := fun law =>
  (State.stackLaw_iff _).mpr (emptyStack_empty law).lawful

theorem shedClearDown (s : State) : s.KeepsStack s.shedClearDown :=
  emptyStack_then s _ fun i t empty => by
    split
    · rw [holdOpen_stackView]
      exact empty.set i rfl
    · exact empty

theorem shedAdopt (s : State) : s.KeepsStack s.shedAdopt :=
  emptyStack_then s _ fun i t empty => by
    split
    · rw [fdrNone_stackView, stopConfirm_stackView, setFdrState_stackView]
      exact empty.set i (t.reportedState_stacked i)
    · exact empty

theorem shedSettle (s : State) : s.KeepsStack s.shedSettle := by
  refine forEach _ (fun i t => ite (fun held => ?_) fun _ => refl t) feeders s
  simp only [Bool.and_eq_true, beq_iff_eq] at held
  obtain ⟨⟨held, -⟩, -⟩ := held
  exact of_set (i := i) (x := .stuck) (by simp) (by rw [held]; rfl)

theorem shedStepClose (s : State) (is : List (Fin 32)) : s.KeepsStack (s.shedStepClose is) :=
  forEach _ (fun _ t => ite (fun _ => of_view (by simp)) fun _ => refl t) is s

theorem shedRelease (s : State) : s.KeepsStack s.shedRelease := by
  refine forEach _ (fun i t => ite (fun held => ?_) fun _ => refl t) feeders s
  exact of_set (i := i) (x := .openOther) (by simp) (by rw [beq_iff_eq.mp held]; rfl)

/-- A feeder that a commit removes or configures leaves the stack with the values of reset (R131). -/
theorem commitFdr (s : State) (old new : Bank) (i : Fin 32) : s.KeepsStack (s.commitFdr old new i) :=
  ite (fun _ => of_drop ((modFdr_stackView _ i _).trans (by rw [unstack_stackView])) rfl) fun _ => refl s

end State.KeepsStack
end Sys2Proof.Machine
end

section
/-! SUPPORT. The sequencer, the black-start controller and the mode control keep the law of the shed stack (R123). -/

namespace Sys2Proof.Machine

namespace State.KeepsStack

/-! ## The set sequencer -/

theorem startRequest (s : State) (named : Option (Fin 8)) (dead : Bool) :
    s.KeepsStack (s.startRequest named dead) := of_seq (s.startRequest_outsideSeq named dead)

theorem sourceLoss (s : State) (g : Fin 8) (load : Nat) : s.KeepsStack (s.sourceLoss g load) :=
  (of_curtail s.sourceLossRelease_outsideCurtail).trans
    (ite (fun _ => (reducedDemand _ _ _).trans (raise _ _)) fun _ => refl _)

theorem trip (s : State) (g : Fin 8) (v : GenValues) : s.KeepsStack (s.trip g v) := by
  have entry (t : State) : t.KeepsStack (t.tripEntry g v) := of_seq (t.tripEntry_outsideSeq g v)
  have lost (load : Nat) : s.KeepsStack ((s.sourceLoss g load).tripEntry g v) := (sourceLoss s g load).trans (entry _)
  exact ite (fun _ => ite (fun _ => of_seq (s.enterCooldown_outsideSeq g)) fun _ => lost _)
    fun _ => ite (fun _ => lost _) fun _ => entry s

/-- Of what a GEN report does to its set, a trip alone can be a source loss and shed. -/
theorem genTransition (s : State) (g : Fin 8) (v : GenValues) : s.KeepsStack (s.genTransition g v) := by
  have notReady : s.KeepsStack (s.enterNotReady g) := of_seq (s.enterNotReady_outsideSeq g)
  have cooldown : s.KeepsStack (s.enterCooldown g) := of_seq (s.enterCooldown_outsideSeq g)
  have stopped : s.KeepsStack (s.stoppedEntry g v) := of_seq (s.stoppedEntry_outsideSeq g v)
  have failed : s.KeepsStack (s.failedAttempt g) := of_seq (s.failedAttempt_outsideSeq g)
  unfold State.genTransition
  extract_lets fault
  split
  next => exact ite (fun _ => of_seq (s.enterStandby_outsideSeq g)) fun _ => refl s
  next => exact ite (fun _ => notReady) fun _ => refl s
  next =>
    exact ite (fun _ => of_seq (s.enterWarmup_outsideSeq g)) fun _ => ite (fun _ => failed)
      fun _ => ite (fun _ => notReady) fun _ => refl s
  next => exact ite (fun _ => notReady) fun _ => refl s
  next => exact ite (fun _ => failed) fun _ => ite (fun _ => notReady) fun _ => refl s
  next => exact ite (fun _ => failed) fun _ => ite (fun _ => notReady) fun _ => refl s
  next =>
    exact ite (fun _ => of_seq (s.enterOnline_outsideSeq g)) fun _ =>
      ite (fun _ => of_seq (s.failedClose_outsideSeq g)) fun _ => ite (fun _ => notReady) fun _ => refl s
  next =>
    exact ite (fun _ => ite (fun _ => cooldown) fun _ => refl s) fun _ => ite (fun _ => trip s g v) fun _ => refl s
  next =>
    exact ite (fun _ => ite (fun _ => cooldown) fun _ => refl s) fun _ => ite (fun _ => trip s g v) fun _ =>
      ite (fun _ => of_seq (by simp)) fun _ => refl s
  next =>
    exact ite (fun _ => stopped) fun _ => ite (fun _ => notReady) fun _ =>
      ite (fun _ => of_seq (s.startCool_outsideSeq g)) fun _ => refl s
  next => exact ite (fun _ => stopped) fun _ => ite (fun _ => notReady) fun _ => refl s
  next => exact ite (fun _ => of_seq (s.genOrder_outsideSeq g _)) fun _ => refl s
  next => exact of_seq (s.unseenReturn_outsideSeq g v)

/-! ## The black-start controller -/

theorem modBs (s : State) (f : BlackStart → BlackStart) : s.KeepsStack (s.modBs f) := of_shed rfl

theorem setIsland (s : State) (x : Island) : s.KeepsStack (s.setIsland x) := (modBs s _).trans (raise _ _)

theorem endUf (s : State) : s.KeepsStack s.endUf := of_view rfl

theorem enterAbandoned (s : State) : s.KeepsStack s.enterAbandoned := by
  unfold State.enterAbandoned
  extract_lets t
  have abandons (u : State) : u.KeepsStack u.genAbandon := of_seq u.genAbandon_outsideSeq
  have acted : s.KeepsStack t :=
    (((setIsland s .abandoned).trans (raise _ .bsAbandoned)).trans (abandons _)).trans (endUf _)
  exact acted.trans (modBs t _)

theorem chooseFirstSource (s : State) : s.KeepsStack s.chooseFirstSource := by
  refine ite (fun _ => refl s) fun _ => ?_
  split
  · exact refl s
  · exact startRequest s _ true

theorem enterFirstSource (s : State) : s.KeepsStack s.enterFirstSource :=
  ((setIsland s .firstSource).trans (ite (fun _ => endUf _) fun _ => refl _)).trans
    (ite (fun _ => enterAbandoned _) fun _ => chooseFirstSource _)

theorem applyWaiting (s : State) : s.KeepsStack s.applyWaiting :=
  ite (fun _ => enterFirstSource s) fun _ => refl s

theorem completeClearDown (s : State) : s.KeepsStack s.completeClearDown :=
  (((modBs s _).trans (shedSettle _)).trans (modBs _ _)).trans (applyWaiting _)

theorem judgeSettled (s : State) : s.KeepsStack s.judgeSettled :=
  ite (fun _ => completeClearDown s) fun _ => refl s

theorem orderClearDown (s : State) : s.KeepsStack s.orderClearDown :=
  ((((modBs s _).trans (shedClearDown _)).trans (of_curtail (State.pvClearDown_outsideCurtail _))).trans
    (of_seq (State.genClearDown_outsideSeq _))).trans (judgeSettled _)

theorem enterBlackout (s : State) : s.KeepsStack s.enterBlackout :=
  ((((setIsland s .blackout).trans (endUf _)).trans (emptyStack _)).trans (modBs _ _)).trans
    (ite (fun _ => modBs _ _) fun _ => orderClearDown _)

theorem busLost (s : State) : s.KeepsStack s.busLost :=
  ite (fun _ => enterBlackout s) fun _ => enterAbandoned s

theorem judgeBlind (s : State) : s.KeepsStack s.judgeBlind := ite (fun _ => busLost s) fun _ => refl s

theorem enterSurvey (s : State) : s.KeepsStack s.enterSurvey := by
  unfold State.enterSurvey
  extract_lets t
  have ended : s.KeepsStack t := (setIsland s .survey).trans (endUf _)
  exact ended.trans (modBs t _)

theorem adopt (s : State) : s.KeepsStack s.adopt := by
  have units : s.KeepsStack s.genAdopt.shedAdopt.pvAdopt :=
    ((of_seq s.genAdopt_outsideSeq).trans (shedAdopt _)).trans (of_curtail (State.pvAdopt_outsideCurtail _))
  exact (units.trans (setIsland _ .balancing)).trans (of_shed rfl)

theorem judgeSurvey (s : State) (atExpiry : Bool) : s.KeepsStack (s.judgeSurvey atExpiry) := by
  unfold State.judgeSurvey
  extract_lets noChange
  have kept : s.KeepsStack noChange := ite (fun _ => enterAbandoned s) fun _ => refl s
  split
  · exact ite (fun _ => adopt s) fun _ => kept
  · exact ite (fun _ => adopt s) fun _ => kept
  · exact ite (fun _ => adopt s) fun _ => ite (fun _ => enterBlackout s) fun _ => kept

theorem surveyTap (s : State) (judging : Bool) : s.KeepsStack (s.surveyTap judging) :=
  ite (fun _ => ite (fun _ => judgeSurvey s false) fun _ => refl s) fun _ =>
    ite (fun _ => (modBs s _).trans (judgeSurvey _ false)) fun _ => refl s

theorem enterEnergizing (s : State) : s.KeepsStack s.enterEnergizing := by
  unfold State.enterEnergizing
  extract_lets t
  exact (setIsland s .energizing).trans (modBs t _)

theorem energizeFailed (s : State) : s.KeepsStack s.energizeFailed :=
  (modBs s _).trans (ite (fun _ => enterAbandoned _) fun _ => enterFirstSource _)

theorem enterRestoring (s : State) : s.KeepsStack s.enterRestoring := by
  unfold State.enterRestoring
  extract_lets t
  have settled : s.KeepsStack t := (setIsland s .restoring).trans (of_seq (State.genSettled_outsideSeq _))
  exact settled.trans (modBs t _)

theorem permitNext (s : State) : s.KeepsStack s.permitNext := by
  unfold State.permitNext
  split
  next b _ =>
    extract_lets t u
    have pointed : s.KeepsStack t := modBs s _
    have permitted : t.KeepsStack u := of_curtail (t.pvPermitRequest_outsideCurtail b)
    exact (pointed.trans permitted).trans (modBs u _)
  next => exact ((modBs s _).trans (setIsland _ .balancing)).trans (shedRelease _)

theorem permitExpiry (s : State) : s.KeepsStack s.permitExpiry := ite (fun _ => modBs s _) fun _ => permitNext s

theorem enterPvReturn (s : State) : s.KeepsStack s.enterPvReturn := by
  have hold (t : State) : t.KeepsStack t.startPvHold := ite (fun _ => permitExpiry t) fun _ => modBs t _
  have base (t : State) : t.KeepsStack (t.setRampBase 0) := of_shed rfl
  exact (((setIsland s .pvReturn).trans (base _)).trans (modBs _ _)).trans (hold _)

theorem shortStep (s : State) (n : Fin 16) : s.KeepsStack (s.shortStep n) :=
  (modBs s _).trans (ite (fun _ => refl _) fun _ => ite (fun _ => refl _) fun _ =>
    ite (fun _ => startRequest _ none false) fun _ => (modBs _ _).trans (raise _ _))

theorem executeStep (s : State) (n : Fin 16) : s.KeepsStack (s.executeStep n) := by
  unfold State.executeStep
  extract_lets t
  have closes : s.KeepsStack t := shedStepClose s _
  exact closes.trans (modBs t _)

theorem judgeStep (s : State) : s.KeepsStack s.judgeStep := by
  refine ite (fun _ => refl s) fun _ => ?_
  extract_lets t
  have judged : s.KeepsStack t := modBs s _
  refine judged.trans ?_
  split
  · exact enterPvReturn t
  · exact ite (fun _ => refl t) fun _ => ite (fun _ => executeStep t _) fun _ => shortStep t _

theorem bsBusTap (s : State) : s.KeepsStack s.bsBusTap := by
  unfold State.bsBusTap
  split
  · exact surveyTap s true
  · exact ite (fun _ => busLost s) fun _ => refl s
  · exact ite (fun _ => busLost s) fun _ => refl s
  · exact ite (fun _ => busLost s) fun _ => judgeStep s
  · exact ite (fun _ => enterRestoring s) fun _ => refl s
  · exact ite (fun _ => enterSurvey s) fun _ => refl s
  all_goals exact refl s

theorem onGenChange (s : State) (c : GenChange) : s.KeepsStack (s.onGenChange c) := by
  refine ite (fun _ => refl s) fun _ => ?_
  extract_lets t
  have held : s.KeepsStack t := ite (fun _ => modBs s _) fun _ => refl s
  clear_value t
  refine held.trans ?_
  have blind : t.KeepsStack (if c.old.onLine && !c.new.onLine then t.judgeBlind else t) :=
    ite (fun _ => judgeBlind t) fun _ => refl t
  split
  · exact blind
  · exact blind
  · exact blind
  · exact ite (fun _ => enterEnergizing t) fun _ => ite (fun _ => enterAbandoned t) fun _ => chooseFirstSource t
  · exact ite (fun _ => energizeFailed t) fun _ => refl t
  all_goals exact refl t

theorem drain (s : State) : s.KeepsStack s.drain := by
  have fuelled (n : Nat) : ∀ t : State, t.KeepsStack (drainFuel n t) := by
    induction n with
    | zero => exact fun t => of_shed rfl
    | succ n ih =>
      intro t
      unfold drainFuel
      split
      · exact refl t
      next c cs _ =>
        have taken : t.KeepsStack { t with seq := { t.seq with changes := cs } } := of_shed rfl
        exact (taken.trans (onGenChange _ c)).trans (ih _)
  exact fuelled 512 s

theorem drained {s t : State} (h : s.KeepsStack t) : s.KeepsStack t.drain := h.trans (drain t)

theorem energizeFailure (s : State) : s.KeepsStack s.energizeFailure := of_seq s.energizeFailure_outsideSeq

theorem limitDone (s : State) : s.KeepsStack s.limitDone := by
  refine (modBs s fun b => { b with limit := none }).trans ?_
  dsimp only [State.limitDone]
  split
  · exact enterAbandoned _
  · exact enterAbandoned _
  · exact ite (fun _ => modBs _ _) fun _ => (energizeFailure _).trans (enterAbandoned _)
  all_goals exact refl _

theorem energizeDone (s : State) : s.KeepsStack s.energizeDone :=
  (modBs s _).trans (ite (fun _ => (energizeFailure _).trans (energizeFailed _)) fun _ => refl _)

theorem surveyDone (s : State) : s.KeepsStack s.surveyDone :=
  (modBs s _).trans (ite (fun _ => judgeSurvey _ true) fun _ => refl _)

theorem clearDownDone (s : State) : s.KeepsStack s.clearDownDone :=
  (modBs s _).trans (ite (fun _ => completeClearDown _) fun _ => refl _)

theorem permitDone (s : State) : s.KeepsStack s.permitDone := ite (fun _ => drained (permitExpiry s)) fun _ => refl s

theorem proceed (s : State) : s.KeepsStack s.proceed := ite (fun _ => enterBlackout s) fun _ => enterFirstSource s

theorem bsLeaveCommissioning (s : State) : s.KeepsStack s.bsLeaveCommissioning :=
  ite (fun _ => orderClearDown s) fun _ => ite (fun _ => chooseFirstSource s) fun _ =>
    ite (fun _ => (modBs s _).trans (permitNext _)) fun _ => refl s

/-! ## Mode control -/

theorem modMode (s : State) (f : ModeControl → ModeControl) : s.KeepsStack (s.modMode f) := of_shed rfl

theorem handMode (s : State) (old : Mode) : s.KeepsStack (s.handMode old) := by
  unfold State.handMode
  extract_lets new t u v
  have enters : s.KeepsStack t :=
    ite (fun _ => ((withdraw s _).trans (withdraw _ _)).trans (shedEnterCommissioning _)) fun _ => refl s
  have leaves : t.KeepsStack u := ite (fun _ => bsLeaveCommissioning t) fun _ => refl t
  have waits : u.KeepsStack v := ite (fun _ => applyWaiting u) fun _ => refl u
  exact drained ((enters.trans leaves).trans waits)

theorem applyMode (s : State) (m : Mode) (src : ModeSource) : s.KeepsStack (s.applyMode m src) :=
  (modMode s _).trans (ite (fun _ => (raise _ _).trans (handMode _ _)) fun _ => refl _)

theorem returnToDirective (s : State) : s.KeepsStack s.returnToDirective := (modMode s _).trans (applyMode _ _ _)

theorem trainDone (s : State) : s.KeepsStack s.trainDone := by
  have selects (t : State) (m : Mode) : t.KeepsStack (t.selectLine m) := (applyMode t m .line).trans (modMode _ _)
  have releases (t : State) : t.KeepsStack t.releaseTrain :=
    drained ((returnToDirective t).trans (of_seq (State.releaseLockouts_outsideSeq _)))
  have proceeds (t : State) : t.KeepsStack t.trainProceed := ite (fun _ => proceed t) fun _ => refl t
  exact (modMode s _).trans (ite (fun _ => selects _ _) fun _ => ite (fun _ => selects _ _) fun _ =>
    ite (fun _ => releases _) fun _ => ite (fun _ => drained (proceeds _)) fun _ => refl _)

theorem lineLow (s : State) : s.KeepsStack s.lineLow :=
  ite (fun _ => refl s) fun _ => ite (fun _ => modMode s _) fun _ => modMode s _

theorem lineHigh (s : State) : s.KeepsStack s.lineHigh :=
  ite (fun _ => refl s) fun _ => ite (fun _ => modMode s _) fun _ => ite (fun _ => modMode s _) fun _ => modMode s _

end State.KeepsStack
end Sys2Proof.Machine
end

section
/-! SUPPORT. Reports, rounds, directives, the loop and the commit keep the law of the shed stack, and with them every
command (R123). -/

namespace Sys2Proof.Machine

namespace State.KeepsStack

/-! ## Reports and freshness -/

theorem tapRecord (s : State) (u : UnitRef) (p : List Byte) : s.KeepsStack (s.tapRecord u p) := by
  cases u <;> exact of_shed rfl

theorem handTap (s : State) (u : UnitRef) : s.KeepsStack (s.handTap u) := by
  have survey (t : State) (judging : Bool) : t.KeepsStack (if t.bs.island == .survey then t.surveyTap judging else t) :=
    ite (fun _ => surveyTap t judging) fun _ => refl t
  cases u with
  | genset g =>
    unfold State.handTap
    dsimp only
    split
    next => exact refl s
    next v _ =>
      have echoes (t : State) : t.KeepsStack (t.genEcho g v) := of_seq (t.genEcho_outsideSeq g v)
      have judged := drained ((drained (genTransition s g v)).trans (echoes _))
      exact drained (judged.trans (survey _ true))
  | pv b => exact drained ((of_curtail (s.curTap_outsideCurtail b)).trans (survey _ false))
  | feeder i =>
    refine drained ((shedFdrTap s i).trans ?_)
    exact ite (fun _ => surveyTap _ false) fun _ => judgeSettled _
  | busmeter =>
    unfold State.handTap
    dsimp only
    split
    next => exact refl s
    next v _ =>
      exact drained (((shedBusTap s v.dev).trans (of_seq (State.seqBusTap_outsideSeq _))).trans (bsBusTap _))

theorem takeReport (s : State) (src : Addr) (k : Byte) (p : List Byte) : s.KeepsStack (s.takeReport src k p) := by
  unfold State.takeReport
  split
  next => exact of_shed rfl
  next u _ => exact ite (fun _ => (tapRecord s u p).trans (handTap _ u)) fun _ => of_shed rfl

theorem recordLost (s : State) (u : UnitRef) : s.KeepsStack (s.recordLost u) := by cases u <;> exact of_shed rfl

theorem shedBusLost (s : State) : s.KeepsStack s.shedBusLost := of_view rfl

theorem handLost (s : State) (u : UnitRef) : s.KeepsStack (s.handLost u) := by
  cases u with
  | genset g => exact drained (of_seq (s.genGoesLost_outsideSeq g))
  | pv b => exact refl s
  | feeder i => exact drained (judgeSettled s)
  | busmeter => exact drained ((shedBusLost s).trans (judgeBlind _))

theorem lateDone (s : State) (u : UnitRef) : s.KeepsStack (s.lateDone u) := by
  refine ite (fun _ => ?_) fun _ => refl s
  cases u <;> exact of_view rfl

/-! ## The balance round -/

theorem round (s : State) : s.KeepsStack s.round := by
  refine ite (fun _ => ?_) fun _ => of_shed rfl
  have figured : s.KeepsStack { s with bal := s.roundBalance } := of_shed rfl
  refine figured.trans ?_
  unfold State.computedRound State.handRound
  extract_lets f t u v w
  have rounded : ({ s with bal := s.roundBalance } : State).KeepsStack t :=
    (of_curtail (State.allocate_outsideCurtail _ _ _)).trans (of_seq (State.roundComplete_outsideSeq _ _))
  have started : t.KeepsStack u := ite (fun _ => startRequest t none false) fun _ => refl t
  have stopped : u.KeepsStack v := by
    unfold v
    split
    · exact refl u
    · exact of_seq (u.stopSet_outsideSeq _)
  have shed : v.KeepsStack w := by
    unfold w
    split
    · exact refl v
    · exact reducedDemand v _ _
  exact drained (((rounded.trans started).trans stopped).trans shed)

/-! ## Directives -/

theorem doSetMode (s : State) (a : List Byte) : s.KeepsStack (s.doSetMode a).state := by
  unfold State.doSetMode
  split
  next => exact refl s
  next m _ =>
    split
    · exact refl s
    · simp only [apply_ite Carried.state]
      exact ite (fun _ => refl s) fun _ => (modMode s _).trans (applyMode _ m.toMode .directive)

theorem doClearLockout (s : State) (a : List Byte) : s.KeepsStack (s.doClearLockout a).state := by
  unfold State.doClearLockout
  split
  next => exact refl s
  next g _ =>
    simp only [apply_ite Carried.state]
    exact ite (fun _ => refl s) fun _ => ite (fun _ => drained (of_seq (s.clearLockout_outsideSeq g))) fun _ => refl s

theorem doBlackStart (s : State) : s.KeepsStack s.doBlackStart.state := by
  simp only [State.doBlackStart, apply_ite Carried.state]
  exact ite (fun _ => drained (proceed s)) fun _ => refl s

theorem doAbandon (s : State) : s.KeepsStack s.doAbandon.state := by
  have abandoned := drained (enterAbandoned s)
  unfold State.doAbandon
  split <;> dsimp only
  iterate 3 exact abandoned
  all_goals exact refl s

theorem carryOut (s : State) (code : Byte) (a : List Byte) : s.KeepsStack (s.carryOut code a).state := by
  unfold State.carryOut
  split
  · rw [State.Moves.doReadTable_state]; exact refl s
  · exact of_shed rfl
  · exact of_shed rfl
  · exact of_shed rfl
  · exact of_shed rfl
  · exact of_shed rfl
  · rw [State.Moves.doReadUnit_state]; exact refl s
  · exact refl s
  · exact refl s
  · exact doSetMode s a
  · exact doClearLockout s a
  · exact doBlackStart s
  · exact doAbandon s
  · exact of_shed rfl

theorem takeDirective (s : State) (src : Addr) (code token : Byte) (a : List Byte) :
    s.KeepsStack (s.takeDirective src code token a) := by
  refine ite (fun _ => refl s) fun _ => ite (fun _ => of_shed rfl) fun _ => ?_
  have judged : s.KeepsStack (s.judgeDirective src code a).state := by
    unfold State.judgeDirective
    simp only [apply_ite Carried.state]
    exact ite (fun _ => refl s) fun _ => ite (fun _ => refl s) fun _ => ite (fun _ => refl s) fun _ => carryOut s code a
  have joined (t : State) (r : Reply) : t.KeepsStack (t.join src code token r) := of_shed rfl
  exact judged.trans (joined _ _)

/-! ## The loop -/

theorem modPort (s : State) (p : Port) (f : PortState → PortState) : s.KeepsStack (s.modPort p f) :=
  of_shed (s.modPort_shed p f)

theorem mapMarks (s : State) (f : Marks → Marks) : s.KeepsStack (s.mapMarks f) := of_shed (s.mapMarks_shed f)

theorem portEntersUp (s : State) (p : Port) : s.KeepsStack (s.portEntersUp p) := by
  unfold State.portEntersUp
  extract_lets t u
  have marks : t.KeepsStack u := ite (fun _ => mapMarks t _) fun _ => refl t
  exact ((modPort s p _).trans marks).trans (raise u _)

theorem losePort (s : State) (p : Port) : s.KeepsStack (s.losePort p) :=
  ite (fun _ => modPort s p _) fun _ => ((modPort s p _).trans (mapMarks _ _)).trans (raise _ _)

theorem windowDone (s : State) (p : Port) : s.KeepsStack (s.windowDone p) := by
  unfold State.windowDone
  extract_lets old new t
  have judged : s.KeepsStack t := modPort s p _
  exact judged.trans (ite (fun _ => refl t) fun _ => raise t _)

theorem intake (s : State) (f : Frame) : s.KeepsStack (s.intake f) := by
  unfold State.intake
  split
  next h =>
    refine ite (fun _ => ?_) fun _ => refl s
    have counted : s.KeepsStack (s.acceptSeq ⟨(lowSix f.src).val, h⟩ f.seq) := of_shed rfl
    refine counted.trans (ite (fun _ => takeReport _ _ _ _) fun _ => ?_)
    unfold State.takePayload
    split
    · exact takeDirective _ _ _ _ _
    · exact refl _
  next => exact refl s

theorem handleFrame (s : State) (p : Port) (f : Frame) : s.KeepsStack (s.handleFrame p f) := by
  have forwards (t : State) : t.KeepsStack (t.forward p f) := ite (fun _ => refl t) fun _ => modPort t _ _
  have offers (t : State) : t.KeepsStack (t.offer f) := ite (fun _ => refl t) fun _ => intake t f
  exact ite (fun _ => refl s) fun _ => ite (fun _ => offers s) fun _ =>
    ite (fun _ => (forwards s).trans (offers _)) fun _ => ite (fun _ => (forwards s).trans (offers _))
      fun _ => forwards s

theorem receive (s : State) (p : Port) (f : RxFrame) : s.KeepsStack (s.receive p f) := by
  unfold State.receive
  split
  next => exact refl s
  next => exact modPort s p _
  next g _ =>
    have counted : s.KeepsStack (s.countGood p) :=
      ite (fun _ => ite (fun _ => portEntersUp s p) fun _ => modPort s p _) fun _ => refl s
    exact counted.trans (handleFrame _ p g)

theorem sourceLost (s : State) (src : Addr) (i : Fin 63) : s.KeepsStack (s.sourceLost src i) := by
  have invalid : s.KeepsStack { s with loop := { s.loop with
      dup := upd s.loop.dup i fun e => { e with valid := false, lost := none } } } := of_shed rfl
  refine invalid.trans ?_
  unfold State.sourceLost
  dsimp only
  split
  next => exact refl _
  next u _ => exact ite (fun _ => refl _) fun _ => (recordLost _ u).trans (handLost _ u)

/-- After a reset, or a RESTART that takes effect, the stack is empty and every feeder in OPEN_OTHER. -/
theorem of_cleared {s t : State} (h : t.Cleared) : s.KeepsStack t := fun _ => by
  obtain ⟨rest, -⟩ := h
  have feeder (f : Fin 32) : t.fdr f = FdrJob.reset ∧ f ∉ t.shed.stack.map (·.feeder) := rest (.feeder f)
  refine t.stackLaw_iff.mpr (StackView.Empty.lawful ⟨?_, fun f => ?_⟩)
  · exact List.eq_nil_iff_forall_not_mem.mpr fun f => (feeder f).2
  · rw [State.stackView_state, (feeder f).1]
    rfl

theorem sentSegment (s : State) (p : Port) (i : Nat) : s.KeepsStack (s.sentSegment p i) := by
  unfold State.sentSegment
  split
  next => exact refl s
  next x rest _ =>
    refine ite (fun _ => ?_) fun _ => of_shed rfl
    exact ite (fun _ => of_cleared (State.restartEffect_cleared _)) fun _ => of_shed rfl

theorem inserted (s : State) (p : Port) : s.KeepsStack (s.inserted p) := by
  unfold State.inserted
  split
  next r f stale _ =>
    refine (modPort s p _).trans (ite (fun _ => refl _) fun _ => ?_)
    cases r with
    | order a =>
      unfold State.sent State.sentOrder
      dsimp only
      split
      · exact refl _
      · exact ite (fun _ => of_shed rfl) fun _ => of_shed rfl
    | answer i => exact sentSegment _ p i
    | notice =>
      unfold State.sent State.sentNotice
      dsimp only
      split
      · exact refl _
      · exact ite (fun _ => of_shed rfl) fun _ => of_shed rfl
  next => exact refl s
  next => exact refl s

/-! ## A commit takes effect (R176) -/

theorem emptyOldSlots (s : State) (old new : Bank) : s.KeepsStack (s.emptyOldSlots old new) := by
  refine forEach _ (fun u t => ite (fun _ => ?_) fun _ => refl t) allUnits s
  split <;> exact of_shed rfl

theorem emptyOffOrder (s : State) (old new : Bank) : s.KeepsStack (s.emptyOffOrder old new) := by
  refine forEach _ (fun e t => ite (fun _ => ?_) fun _ => refl t) s.shed.stack s
  split
  · exact refl t
  · split
    · exact refl t
    · exact ite (fun _ => of_shed rfl) fun _ => refl t

theorem pictureUnit (s : State) (old new : Bank) (u : UnitRef) : s.KeepsStack (s.pictureUnit old new u) := by
  unfold State.pictureUnit
  refine ite (fun _ => by cases u <;> exact of_shed rfl) fun _ => ?_
  extract_lets t
  have moved : s.KeepsStack t := ite (fun _ => recordLost s u) fun _ => refl s
  refine moved.trans (ite (fun _ => refl t) fun _ => ?_)
  cases u with
  | genset g => exact ite (fun _ => refl t) fun _ => of_shed rfl
  | pv b => exact ite (fun _ => refl t) fun _ => of_shed rfl
  | feeder | busmeter => exact refl t

theorem commitPv (s : State) (old new : Bank) (b : Fin 16) : s.KeepsStack (s.commitPv old new b) :=
  ite (fun _ => of_shed rfl) fun _ => refl s

theorem commitGen (s : State) (old new : Bank) (wasLost : Bool) (g : Fin 8) :
    s.KeepsStack (s.commitGen old new wasLost g) := by
  refine of_seq ?_
  simp only [State.commitGen, apply_ite State.outsideSeq, State.modGen_outsideSeq, State.setGenState_outsideSeq,
    State.genGoesLost_outsideSeq, ite_self]

theorem commitJobs (s t : State) (old new : Bank) : t.KeepsStack (s.commitJobs t old new) := by
  unfold State.commitJobs
  extract_lets pvs gens starts fdrs
  have allocator : t.KeepsStack pvs := forEach _ (fun b u => commitPv u old new b) pvBlocks t
  have sequencer : pvs.KeepsStack starts :=
    (forEach _ (fun g u => commitGen u old new _ g) gensets pvs).trans (of_seq (endStarts_outsideSeq 8 _))
  have shedding : starts.KeepsStack fdrs := forEach _ (fun i u => commitFdr u old new i) feeders starts
  exact ((allocator.trans sequencer).trans shedding).trans (ite (fun _ => shedBusLost fdrs) fun _ => refl fdrs)

theorem commitController (s t : State) (old new : Bank) : t.KeepsStack (s.commitController t old new) :=
  ite (fun _ => drained (enterSurvey t)) fun _ => ite (fun _ => drained (judgeBlind t)) fun _ => drain t

theorem commitEffect (s : State) : s.KeepsStack s.commitEffect := by
  unfold State.commitEffect
  extract_lets old new emptied pictured judged
  have copied : s.KeepsStack s.copyShadow := of_shed rfl
  have slots : s.KeepsStack emptied := (copied.trans (emptyOldSlots _ old new)).trans (emptyOffOrder _ old new)
  have picture : emptied.KeepsStack pictured := forEach _ (fun u t => pictureUnit t old new u) allUnits emptied
  have jobs : pictured.KeepsStack judged :=
    ((commitJobs s pictured old new).trans (commitController s _ old new)).trans (raise _ _)
  exact ((slots.trans picture).trans jobs).trans (of_shed rfl)

theorem commitBoundary (s : State) : s.KeepsStack s.commitBoundary := by
  refine ite (fun _ => refl s) fun _ => ite (fun _ => ?_) fun _ => refl s
  split
  · exact commitEffect s
  · exact of_shed rfl

/-! ## Expiries -/

theorem expire (s : State) (t : Timer) (f : State → State) (h : ∀ u : State, u.KeepsStack (f u)) :
    s.KeepsStack (s.expire t f) := by
  cases t with
  | none => exact refl s
  | some d => exact (of_shed (t := s.at d) rfl).trans (h _)

theorem expireSup (s : State) (g : Fin 8) (x : GenState) (f : State → State)
    (h : ∀ u : State, (f u).outsideSeq = u.outsideSeq) : s.KeepsStack (s.expireSup g x fun u => (f u).drain) :=
  ite (fun _ => expire s _ _ fun u => drained (of_seq (h u))) fun _ => refl s

theorem roundExpiry (s : State) : s.KeepsStack s.roundExpiry :=
  expire s _ _ fun u => by
    have restarted (t : State) : t.KeepsStack t.restartRound := of_shed rfl
    exact ((commitBoundary u).trans (restarted _)).trans (round _)

end State.KeepsStack

/-! ## Every command -/

theorem exec_keepsStack {c : Instr} {s t : State} (h : exec c s = .next t) : s.KeepsStack t := by
  cases c with
  | powerUpOrPinReset strap mntHigh => cases h; exact .of_cleared (s.poweredUp_cleared strap mntHigh)
  | insertionOpportunity p =>
    cases h
    obtain ⟨-, -, -, shed, -⟩ := s.opportunity_jobs p
    exact .of_shed shed
  | insertionComplete p => cases h; exact .inserted s p
  | roundTimerExpiry => cases h; exact .roundExpiry s
  | readTable src token args | writeTable src token args | clearShadow src token args | commit src token args
  | readStatus src token args | ackNotices src token args | readUnit src token args | readBalance src token args
  | readStack src token args | setMode src token args | clearLockout src token args | blackStart src token args
  | abandon src token args | restart src token args => cases h; exact .takeDirective s src _ token args
  | frameReceive p f => cases h; exact .receive s p f
  | lossOfSignal p => cases h; exact .losePort s p
  | errorWindowExpiry p =>
    cases h; exact .ite (fun _ => .refl s) fun _ => .expire s _ _ fun _ => .windowDone _ p
  | forwardTransmitDone p => cases h; exact .modPort s p _
  | lostTimerExpiry src =>
    cases h
    unfold State.lostExpiry
    split
    · exact .expire s _ _ fun _ => .sourceLost _ src _
    · exact .refl s
  | lateTimerExpiry u => cases h; exact .expire s _ _ fun _ => .lateDone _ u
  | crankTimerExpiry g => cases h; exact .expireSup s g _ _ fun u => u.failedAttempt_outsideSeq g
  | restTimerExpiry g => cases h; exact .expireSup s g _ _ fun u => u.restDone_outsideSeq g _
  | warmTimerExpiry g => cases h; exact .expireSup s g _ _ fun u => u.warmDone_outsideSeq g
  | hotTimerExpiry g => cases h; exact .expireSup s g _ _ fun u => u.enterCooldown_outsideSeq g
  | syncTimerExpiry g => cases h; exact .expireSup s g _ _ fun u => u.failedClose_outsideSeq g
  | minRunTimerExpiry g => cases h; exact .expire s _ _ fun _ => .of_shed rfl
  | unloadTimerExpiry g => cases h; exact .expireSup s g _ _ fun u => u.unloadDone_outsideSeq g
  | coolTimerExpiry g => cases h; exact .expireSup s g _ _ fun u => u.enterStopping_outsideSeq g
  | stopTimerExpiry g => cases h; exact .expireSup s g _ _ fun u => u.enterNotReady_outsideSeq g
  | confirmTimerExpiry i => cases h; exact .expire s _ _ fun _ => .confirmExpiry _ i
  | stageDelayExpiry n =>
    cases h; exact .ite (fun _ => .expire s _ _ fun _ => .fireStage _ n) fun _ => .refl s
  | recoverTimerExpiry => cases h; exact .expire s _ _ fun _ => .of_view rfl
  | restoreDwellExpiry => cases h; exact .expire s _ _ fun _ => .of_view rfl
  | restoreIntervalExpiry => cases h; exact .expire s _ _ fun _ => .of_view rfl
  | secondsCountTick => cases h; exact .of_view rfl
  | surveyTimerExpiry => cases h; exact .expire s _ _ fun _ => .drained (.surveyDone _)
  | clearDownTimerExpiry => cases h; exact .expire s _ _ fun _ => .drained (.clearDownDone _)
  | blackStartLimitExpiry => cases h; exact .expire s _ _ fun _ => .drained (.limitDone _)
  | energizeTimerExpiry => cases h; exact .expire s _ _ fun _ => .drained (.energizeDone _)
  | stepIntervalExpiry => cases h; exact .expire s _ _ fun _ => .modBs _ _
  | capacityHoldExpiry => cases h; exact .expire s _ _ fun _ => .modBs _ _
  | pvHoldExpiry => cases h; exact .expire s _ _ fun _ => (State.KeepsStack.modBs _ _).trans (.permitDone _)
  | pvGapExpiry => cases h; exact .expire s _ _ fun _ => (State.KeepsStack.modBs _ _).trans (.permitDone _)
  | storeSaveDone => cases h; exact .ite (fun _ => .of_shed rfl) fun _ => .refl s
  | mntLineLow => cases h; exact .lineLow s
  | mntLineHigh => cases h; exact .lineHigh s
  | pulseTimerExpiry => cases h; exact .expire s _ _ fun _ => .modMode _ _
  | trainTimerExpiry => cases h; exact .expire s _ _ fun _ => .trainDone _
  | lineModeTimerExpiry => cases h; exact .expire s _ _ fun _ => .returnToDirective _

/-- Settles O36: whatever puts a feeder in a state of the stack or takes it out of them moves it on the stack in the
same operation, but for the emptying of the whole stack; all else leaves both. -/
theorem stackHoldsTheShedFeeders : Obligations.StackHoldsTheShedFeeders :=
  fun _ _ _ step => exec_keepsStack step

end Sys2Proof.Machine
end

section
/-! SUPPORT. The maintenance line (R159): the commands of its two levels and of the pulse timer. -/

namespace Sys2Proof.Machine

theorem exec_mntLineLow (s : State) : exec .mntLineLow s = .next s.lineLow := rfl

theorem exec_mntLineHigh (s : State) : exec .mntLineHigh s = .next s.lineHigh := rfl

theorem exec_pulseTimerExpiry_of_running {s : State} {d : Nat} (runs : s.mode.pulse = some d) :
    exec .pulseTimerExpiry s = .next (s.at d).pulseDone := by
  simp only [exec, execPulseTimerExpiry, State.pulseExpiry, State.expire, runs]
  rfl

/-- Settles O45, case by case of the levels: a line already at the level, not armed, with a pulse mark or without. -/
theorem lineLevelsFormPulses : Obligations.LineLevelsFormPulses := by
  intro s
  refine ⟨fun high armed => ?_, fun high armed => ?_, fun low armed => ?_, fun low armed marked => ?_,
    fun low armed unmarked => ?_, fun d _ runs => ?_⟩
  · rw [exec_mntLineLow]
    simp [State.lineLow, State.modMode, State.timer, high, armed]
  · rw [exec_mntLineLow]
    simp [State.lineLow, State.modMode, high, armed]
  · rw [exec_mntLineHigh]
    simp [State.lineHigh, State.modMode, low, armed]
  · rw [exec_mntLineHigh]
    simp [State.lineHigh, State.modMode, State.timer, low, armed, marked]
  · rw [exec_mntLineHigh]
    simp [State.lineHigh, State.modMode, State.timer, low, armed, unmarked]
  · rw [exec_pulseTimerExpiry_of_running runs]
    rfl

end Sys2Proof.Machine
end

section
/-! SUPPORT. The codes of the orders that wait and are sent: the laws of R165 by them, and the primitive operations that
keep those laws. -/

namespace Sys2Proof.Machine

/-! ## The codes that wait and are sent -/

/-- Every order that waits in a slot or is being inserted bears a code of `P`. -/
structure State.OrdersAmong (P : OrderCode → Prop) (s : State) : Prop where
  waits : ∀ a o, s.slot a = some o → P o.code
  sends : ∀ p a f x, (s.port p).tx = .inserting (.order a) f x → ∃ c, P c ∧ f.orderCode = c.code

/-- The orders that a feeder can stand. -/
def OrderCode.OfFeeder (c : OrderCode) : Prop := c = .none ∨ c = .open ∨ c = .close

/-- The codes of 11.2 but for that of NONE are 1 to 11. -/
theorem OrderCode.exists_code_eq_iff (b : Byte) : (∃ c : OrderCode, c ≠ .none ∧ b = c.code) ↔ b ≠ 0 ∧ b.toNat ≤ 11 := by
  constructor
  · rintro ⟨c, order, rfl⟩
    revert order
    cases c <;> decide
  · rintro ⟨nonzero, within⟩
    have codes : ∀ n : Fin 12, n ≠ 0 → ∃ c ∈ [OrderCode.start, .stop, .unload, .load, .closeSync, .closeDead, .open,
        .close, .cap, .disconnect, .permit], c ≠ .none ∧ BitVec.ofNat 8 n = c.code := by decide
    obtain ⟨c, -, order, code⟩ := codes ⟨b.toNat, by omega⟩ fun e => nonzero (BitVec.eq_of_toNat_eq (Fin.mk.inj e))
    exact ⟨c, order, by simpa using code⟩

theorem Tx.insertsNoOrder_eq_false_iff (t : Tx) :
    t.insertsNoOrder = false ↔
      ∀ a f x, t = .inserting (.order a) f x → ∃ c : OrderCode, c ≠ .none ∧ f.orderCode = c.code := by
  unfold Tx.insertsNoOrder
  split
  next a f x =>
    simp only [Bool.or_eq_false_iff, beq_eq_false_iff_ne, decide_eq_false_iff_not, not_lt]
    rw [← OrderCode.exists_code_eq_iff]
    exact ⟨fun h _ _ _ e => by cases e; exact h, fun h => h a f x rfl⟩
  all_goals simp

theorem Tx.insertsOther_eq_false_iff (t : Tx) :
    t.insertsOther = false ↔
      ∀ a f x, t = .inserting (.order a) f x → ∃ c, c = OrderCode.open ∧ f.orderCode = c.code := by
  unfold Tx.insertsOther
  split
  next a f x =>
    simp only [bne_eq_false_iff_eq, exists_eq_left]
    exact ⟨fun h _ _ _ e => by cases e; exact h, fun h => h a f x rfl⟩
  all_goals simp

theorem Port.forall_iff {P : Port → Prop} : (∀ p, P p) ↔ P .e ∧ P .w :=
  ⟨fun h => ⟨h .e, h .w⟩, fun ⟨e, w⟩ p => by cases p; exacts [e, w]⟩

theorem State.ordersAmong_iff (P : OrderCode → Prop) (s : State) :
    s.OrdersAmong P ↔ (∀ a, ∀ o ∈ s.slot a, P o.code) ∧
      (∀ a f x, s.loop.portE.tx = .inserting (.order a) f x → ∃ c, P c ∧ f.orderCode = c.code) ∧
      ∀ a f x, s.loop.portW.tx = .inserting (.order a) f x → ∃ c, P c ∧ f.orderCode = c.code :=
  ⟨fun h => ⟨h.waits, h.sends .e, h.sends .w⟩, fun ⟨waits, e, w⟩ => ⟨waits, Port.forall_iff.mpr ⟨e, w⟩⟩⟩

theorem State.ordersSound_iff (s : State) :
    s.OrdersSound ↔ (∀ i, (s.fdr i).order.OfFeeder) ∧ s.OrdersAmong (· ≠ .none) := by
  rw [State.ordersAmong_iff, ← Tx.insertsNoOrder_eq_false_iff, ← Tx.insertsNoOrder_eq_false_iff]
  simp only [State.OrdersSound, OrderCode.OfFeeder, mem_addresses, feeders, List.mem_finRange, true_imp_iff]
  exact and_left_comm

theorem State.commissioningLaw_iff (s : State) :
    s.CommissioningLaw ↔ (s.mode.mode = .commissioning → s.OrdersAmong (· = .open)) := by
  rw [State.ordersAmong_iff, ← Tx.insertsOther_eq_false_iff, ← Tx.insertsOther_eq_false_iff]
  simp only [State.CommissioningLaw, mem_addresses, true_imp_iff]

theorem State.OrdersAmong.mono {P Q : OrderCode → Prop} {s : State} (h : s.OrdersAmong P) (all : ∀ c, P c → Q c) :
    s.OrdersAmong Q :=
  ⟨fun a o waits => all _ (h.waits a o waits), fun p a f x sends =>
    (h.sends p a f x sends).imp fun c => And.imp_left (all c)⟩

/-- What places no new code and begins no insertion. -/
theorem State.OrdersAmong.of_kept {P : OrderCode → Prop} {s t : State} (h : s.OrdersAmong P)
    (waits : ∀ a o, t.slot a = some o → (∃ x, s.slot a = some x ∧ x.code = o.code) ∨ P o.code)
    (sends : ∀ p r f x, (t.port p).tx = .inserting r f x → ∃ y, (s.port p).tx = .inserting r f y) :
    t.OrdersAmong P := by
  refine ⟨fun a o ho => ?_, fun p a f x hx => ?_⟩
  · obtain ⟨x, hx, code⟩ | new := waits a o ho
    · exact code ▸ h.waits a x hx
    · exact new
  · obtain ⟨y, hy⟩ := sends p _ f x hx
    exact h.sends p a f y hy

theorem State.ActsOn.ordersAmong {P : OrderCode → Prop} {s t : State} (acts : s.ActsOn none t)
    (h : s.OrdersAmong P) : t.OrdersAmong P :=
  h.of_kept (fun a o ho => .inl ((acts.slots a o ho).resolve_right nofun)) acts.sends

/-- A withdrawal takes its codes out of the slots and off the ports (R72, R105, R127). -/
theorem State.OrdersAmong.withdraw {P : OrderCode → Prop} {s : State} (h : s.OrdersAmong P)
    (codes : List OrderCode) : (s.withdraw codes).OrdersAmong fun c => P c ∧ c ∉ codes := by
  refine ⟨fun a o waits => ?_, fun p a f x sends => ?_⟩
  · rw [State.withdraw_slot] at waits
    split at waits
    · cases waits
    next held =>
      refine ⟨h.waits a o waits, fun listed => held ?_⟩
      simpa [State.holdsOne, waits] using listed
  · have emptied (t : State) : t.ActsOn none (forEach addresses
        (fun a s => if s.holdsOne codes a then s.emptySlot a else s) t) :=
      .forEach _ (fun a t => .ite (fun _ => .emptySlot t a none) fun _ => .refl t none) addresses t
    obtain ⟨y, cut⟩ := (emptied _).sends p _ f x sends
    obtain ⟨before, spared⟩ := State.cutOrders_inserting cut
    obtain ⟨c, among, code⟩ := h.sends p a f y before
    refine ⟨c, ⟨among, fun listed => ?_⟩, code⟩
    have spared := (Bool.or_eq_false_iff.mp (spared a rfl)).1
    exact List.any_eq_false.mp spared c listed (by simp [code])

@[simp] theorem State.placedSlot_code (s : State) (a : Addr) (code : OrderCode) (tag : Byte) (cap : Nat)
    (cls : OrderClass) : (s.placedSlot a code tag cap cls).code = code := by
  unfold State.placedSlot
  split <;> rfl

/-! ## Keeping the laws -/

/-- A code that may be placed: an order, and in COMMISSIONING an OPEN (R165). -/
def State.Allows (s : State) (c : OrderCode) : Prop := c ≠ .none ∧ (s.mode.mode = .commissioning → c = .open)

theorem State.allows_open (s : State) : s.Allows .open := ⟨nofun, fun _ => rfl⟩

theorem State.allows_of_mode {s : State} (mode : s.mode.mode ≠ .commissioning) {c : OrderCode} (order : c ≠ .none) :
    s.Allows c := ⟨order, fun e => absurd e mode⟩

theorem State.mode_of_kept {s t : State} (kept : t.kept = s.kept) (mode : s.mode.mode ≠ .commissioning) :
    t.mode.mode ≠ .commissioning := by
  have same : t.mode = s.mode := congrArg Kept.mode kept
  rwa [same]

/-- What leads from `s` to `t` keeps the soundness of orders, and with it the law of R165. -/
def State.KeepsOrders (s t : State) : Prop :=
  s.OrdersSound → t.OrdersSound ∧ (s.CommissioningLaw → t.CommissioningLaw)

namespace State.KeepsOrders

theorem refl (s : State) : s.KeepsOrders s := fun sound => ⟨sound, id⟩

theorem trans {s t u : State} (h : s.KeepsOrders t) (k : t.KeepsOrders u) : s.KeepsOrders u := fun sound => by
  obtain ⟨sound, law⟩ := h sound
  obtain ⟨sound, law'⟩ := k sound
  exact ⟨sound, law' ∘ law⟩

theorem ite {c : Prop} [Decidable c] {s t u : State} (h : c → s.KeepsOrders t) (k : ¬ c → s.KeepsOrders u) :
    s.KeepsOrders (if c then t else u) := by
  split
  next hc => exact h hc
  next hc => exact k hc

theorem forEach {ι : Type} (f : ι → State → State) (visit : ∀ i t, State.KeepsOrders t (f i t)) (is : List ι)
    (s : State) : s.KeepsOrders (forEach is f s) :=
  forEach_preserves (P := s.KeepsOrders) f is (fun i _ t h => h.trans (visit i t)) s (refl s)

/-- A walk outside COMMISSIONING, whose visits leave the mode. -/
theorem forEach_outside {ι : Type} {s : State} (mode : s.mode.mode ≠ .commissioning) (f : ι → State → State)
    (kept : ∀ i t, (f i t).kept = t.kept)
    (visit : ∀ i t, t.mode.mode ≠ .commissioning → State.KeepsOrders t (f i t)) (is : List ι) :
    s.KeepsOrders (Machine.forEach is f s) := by
  exact (forEach_preserves (P := fun t => t.mode.mode ≠ .commissioning ∧ s.KeepsOrders t) f is
    (fun i _ t ⟨outside, h⟩ => ⟨mode_of_kept (kept i t) outside, h.trans (visit i t outside)⟩) s ⟨mode, refl s⟩).2

/-- The laws read the mode, the standing orders of the feeders, the slots and the transmitters. -/
theorem of_parts {s t : State} (mode : t.mode.mode = .commissioning → s.mode.mode = .commissioning)
    (feeders : (∀ i, (s.fdr i).order.OfFeeder) → ∀ i, (t.fdr i).order.OfFeeder)
    (orders : s.OrdersSound → ∀ P : OrderCode → Prop, (∀ c, s.Allows c → P c) → s.OrdersAmong P → t.OrdersAmong P) :
    s.KeepsOrders t := by
  intro sound
  obtain ⟨stands, among⟩ := s.ordersSound_iff.mp sound
  refine ⟨t.ordersSound_iff.mpr ⟨feeders stands, orders sound _ (fun _ => And.left) among⟩, fun law => ?_⟩
  rw [State.commissioningLaw_iff] at law ⊢
  exact fun now => orders sound _ (fun _ allowed => allowed.2 (mode now)) (law (mode now))

/-- What is done to the outbound entries alone, placing none. -/
theorem of_aside {s t : State} (acts : s.ActsOn none t) (mode : t.mode = s.mode) (shed : t.shed = s.shed) :
    s.KeepsOrders t :=
  of_parts (fun now => mode ▸ now) (fun h i => by simpa only [State.fdr, shed] using h i)
    fun _ _ _ => acts.ordersAmong

/-- What leaves the standing orders of the feeders, the slots and the transmitters, and does not enter COMMISSIONING. -/
theorem of_outbound {s t : State} (mode : t.mode.mode = .commissioning → s.mode.mode = .commissioning)
    (same : (t.shed.jobs, t.loop.orders, t.loop.portE.tx, t.loop.portW.tx) =
      (s.shed.jobs, s.loop.orders, s.loop.portE.tx, s.loop.portW.tx)) : s.KeepsOrders t := by
  simp only [Prod.mk.injEq] at same
  obtain ⟨jobs, orders, east, west⟩ := same
  refine of_parts mode (fun h i => by simpa only [State.fdr, jobs] using h i) fun _ P _ h => ?_
  rw [State.ordersAmong_iff] at h ⊢
  simpa only [State.slot, orders, east, west] using h

theorem of_same {s t : State}
    (same : (t.mode.mode, t.shed.jobs, t.loop.orders, t.loop.portE.tx, t.loop.portW.tx) =
      (s.mode.mode, s.shed.jobs, s.loop.orders, s.loop.portE.tx, s.loop.portW.tx)) : s.KeepsOrders t := by
  obtain ⟨mode, same⟩ := Prod.mk.inj same
  exact of_outbound (fun now => mode ▸ now) same

/-! ### The records of the units -/

theorem modGen (s : State) (g : Fin 8) (f : GenJob → GenJob) : s.KeepsOrders (s.modGen g f) := of_same rfl

theorem modPv (s : State) (b : Fin 16) (f : PvJob → PvJob) : s.KeepsOrders (s.modPv b f) := of_same rfl

theorem modBs (s : State) (f : BlackStart → BlackStart) : s.KeepsOrders (s.modBs f) := of_same rfl

theorem modFdr (s : State) (i : Fin 32) (f : FdrJob → FdrJob)
    (order : (s.fdr i).order.OfFeeder → (f (s.fdr i)).order.OfFeeder) : s.KeepsOrders (s.modFdr i f) := by
  refine of_parts id (fun h k => ?_) fun _ P _ h => ⟨h.waits, fun p => by cases p; exacts [h.sends .e, h.sends .w]⟩
  by_cases e : k = i
  · subst e
    rw [State.modFdr_fdr]
    exact order (h k)
  · rw [State.modFdr_fdr_other _ _ _ _ e]
    exact h k

/-! ### Slots and transmitters -/

theorem raise (s : State) (f : Flag) : s.KeepsOrders (s.raise f) :=
  of_aside (.raise s f none) (congrArg (·.mode) (s.raise_kept f)) (congrArg (·.2.2.1) (s.raise_outsideSeq f))

theorem emptySlot (s : State) (a : Addr) : s.KeepsOrders (s.emptySlot a) := of_aside (.emptySlot s a none) rfl rfl

theorem emptyFor (s : State) (u : UnitRef) : s.KeepsOrders (s.emptyFor u) := by
  unfold State.emptyFor
  split
  · exact refl s
  · exact emptySlot s _

theorem cutOrders (s : State) (sel : Addr → Byte → Bool) : s.KeepsOrders (s.cutOrders sel) :=
  of_aside (.cutOrders s sel none) rfl rfl

theorem withdraw (s : State) (codes : List OrderCode) : s.KeepsOrders (s.withdraw codes) :=
  (cutOrders s _).trans (forEach _ (fun a t => ite (fun _ => emptySlot t a) fun _ => refl t) addresses _)

/-- An order of an allowed code is placed (R19, R20). -/
theorem placeFor (s : State) (u : UnitRef) (code : OrderCode) (tag : Byte) (cap : Nat) (cls : OrderClass)
    (allowed : s.OrdersSound → s.Allows code) : s.KeepsOrders (s.placeFor u code tag cap cls) := by
  unfold State.placeFor
  split
  next => exact refl s
  next a _ =>
    refine of_parts id id fun sound P all h => h.of_kept (fun b o waits => ?_)
      fun p _ _ _ sends => by cases p <;> exact Tx.disown_inserting sends
    by_cases e : b = a
    · subst e
      have placed := Option.some.inj ((s.place_slot b code tag cap cls).symm.trans waits)
      exact .inr (all _ (placed ▸ (s.placedSlot_code b code tag cap cls).symm ▸ allowed sound))
    · exact .inl ⟨o, (s.place_slot_other a b code tag cap cls e).symm.trans waits, rfl⟩

end State.KeepsOrders
end Sys2Proof.Machine
end

section
/-! SUPPORT. The curtailment allocator (chapter 4) and the shedding unit (chapter 6) keep the laws of the orders: outside
COMMISSIONING they place what they will, in it a feeder's OPEN alone. -/

namespace Sys2Proof.Machine

namespace State.KeepsOrders

/-! ## The curtailment allocator -/

theorem pvNone (s : State) (b : Fin 16) : s.KeepsOrders (s.pvNone b) := (modPv s b _).trans (emptyFor _ _)

theorem pvOrder (s : State) (b : Fin 16) (code : OrderCode) (cap : Option Nat) (cls : OrderClass)
    (allowed : s.Allows code) : s.KeepsOrders (s.pvOrder b code cap cls) :=
  (modPv s b _).trans (placeFor _ _ _ _ _ _ fun _ => allowed)

theorem pvConnected (s : State) (b : Fin 16) (connected : Bool) : s.KeepsOrders (s.pvConnected b connected) := by
  unfold State.pvConnected
  split
  · exact (modPv s b _).trans (modPv _ b _)
  · exact (modPv s b _).trans (pvNone _ b)
  · exact (modPv s b _).trans (pvNone _ b)
  · exact refl s

theorem pvPermit (s : State) (b : Fin 16) (mode : s.mode.mode ≠ .commissioning) : s.KeepsOrders (s.pvPermit b) :=
  (modPv s b _).trans (pvOrder _ b .permit none .routine (allows_of_mode mode nofun))

/-- A latched block is permitted outside COMMISSIONING alone (R67). -/
theorem pvLatched (s : State) (b : Fin 16) (v : PvValues) : s.KeepsOrders (s.pvLatched b v) := by
  refine ite (fun latched => pvPermit s b ?_) fun _ => refl s
  simp only [Bool.and_eq_true, bne_iff_ne] at latched
  obtain ⟨⟨⟨⟨-, mode⟩, -⟩, -⟩, -⟩ := latched
  exact mode

/-- What a block stands is sent again outside COMMISSIONING alone (R75). -/
theorem pvEcho (s : State) (b : Fin 16) (v : PvValues) : s.KeepsOrders (s.pvEcho b v) := by
  refine ite (fun _ => refl s) fun stands => ite (fun _ => modPv s b _) fun _ => ite (fun _ => refl s) fun _ =>
    ite (fun _ => ite (fun _ => refl s) fun mode => ?_) fun _ => (modPv s b _).trans (raise _ _)
  exact (modPv s b _).trans (placeFor _ _ _ _ _ _ fun _ => allows_of_mode (by simpa using mode) (by simpa using stands))

theorem curTap (s : State) (b : Fin 16) : s.KeepsOrders (s.curTap b) := by
  unfold State.curTap
  split
  · exact refl s
  next v _ =>
    have connected : s.KeepsOrders (if s.bs.island == .survey then s else s.pvConnected b v.connected) :=
      ite (fun _ => refl s) fun _ => pvConnected s b v.connected
    exact (connected.trans (pvLatched _ b v)).trans (pvEcho _ b v)

theorem pvClearDown (s : State) (mode : s.mode.mode ≠ .commissioning) : s.KeepsOrders s.pvClearDown :=
  forEach_outside mode _ (fun b t => by simp [apply_ite State.kept])
    (fun b t outside => ite (fun _ => (modPv t b _).trans
      (pvOrder _ b .disconnect none .urgent (allows_of_mode outside nofun))) fun _ => refl t) pvBlocks

theorem pvPermitRequest (s : State) (b : Fin 16) (mode : s.mode.mode ≠ .commissioning) :
    s.KeepsOrders (s.pvPermitRequest b) := ite (fun _ => pvPermit s b mode) fun _ => refl s

theorem pvAdopt (s : State) : s.KeepsOrders s.pvAdopt :=
  forEach _ (fun b t => ite (fun _ => (modPv t b _).trans (pvNone _ b)) fun _ => refl t) pvBlocks s

theorem recordAllocation (s : State) (f : Fractions) (a : Int) : s.KeepsOrders (s.recordAllocation f a) := by
  unfold State.recordAllocation
  extract_lets sum t
  have noted : s.KeepsOrders t := forEach _ (fun b t => modPv t b _) pvBlocks s
  exact noted.trans (of_same rfl)

theorem applyTarget (s : State) (f : Fractions) (b : Fin 16) (mode : s.mode.mode ≠ .commissioning) :
    s.KeepsOrders (s.applyTarget f b) :=
  ite (fun _ => pvOrder s b .cap _ .routine (allows_of_mode mode nofun)) fun _ => refl s

/-- In COMMISSIONING an allocation is recorded only (R72). -/
theorem allocate (s : State) (xCmd a : Int) : s.KeepsOrders (s.allocate xCmd a) := by
  unfold State.allocate
  extract_lets f t
  have recorded : s.KeepsOrders t := recordAllocation s f a
  refine recorded.trans (ite (fun _ => refl t) fun mode => ?_)
  have mode : s.mode.mode ≠ .commissioning := by simpa using mode
  exact forEach_outside (mode_of_kept (s.recordAllocation_kept f a) mode) _ (fun b u => by simp [apply_ite State.kept])
    (fun b u outside => ite (fun _ => applyTarget u f b outside) fun _ => refl u) pvBlocks

theorem uncap (s : State) (b : Fin 16) (mode : s.mode.mode ≠ .commissioning) : s.KeepsOrders (s.uncap b) :=
  ite (fun _ => refl s) fun _ => pvOrder s b .cap _ .urgent (allows_of_mode mode nofun)

/-- In COMMISSIONING a source loss uncaps no block (R76). -/
theorem sourceLossRelease (s : State) : s.KeepsOrders s.sourceLossRelease := by
  unfold State.sourceLossRelease
  extract_lets t
  have released : s.KeepsOrders t := ite (fun _ => refl s) fun mode =>
    forEach_outside (by simpa using mode) _ (fun b u => by simp [apply_ite State.kept])
      (fun b u outside => ite (fun _ => uncap u b outside) fun _ => refl u) pvBlocks
  exact released.trans (of_same rfl)

/-! ## One feeder -/

theorem fdrNone (s : State) (i : Fin 32) : s.KeepsOrders (s.fdrNone i) :=
  (modFdr s i _ fun _ => .inl rfl).trans (emptyFor _ _)

theorem fdrOpen (s : State) (i : Fin 32) (cls : OrderClass) : s.KeepsOrders (s.fdrOrder i .open cls) :=
  (modFdr s i _ fun _ => .inr (.inl rfl)).trans (placeFor _ _ _ _ _ _ fun _ => allows_open _)

theorem fdrClose (s : State) (i : Fin 32) (cls : OrderClass) (mode : s.mode.mode ≠ .commissioning) :
    s.KeepsOrders (s.fdrOrder i .close cls) :=
  (modFdr s i _ fun _ => .inr (.inr rfl)).trans (placeFor _ _ _ _ _ _ fun _ => allows_of_mode mode nofun)

theorem setFdrState (s : State) (i : Fin 32) (x : FdrState) : s.KeepsOrders (s.setFdrState i x) := modFdr s i _ id

theorem stopConfirm (s : State) (i : Fin 32) : s.KeepsOrders (s.stopConfirm i) := modFdr s i _ id

theorem startConfirm (s : State) (i : Fin 32) : s.KeepsOrders (s.startConfirm i) := modFdr s i _ id

theorem unstack (s : State) (i : Fin 32) : s.KeepsOrders (s.unstack i) := of_same rfl

/-- A feeder that takes a state and stands ordered nothing, its confirm timer stopped. -/
theorem settle (s : State) (i : Fin 32) (x : FdrState) :
    s.KeepsOrders (((s.setFdrState i x).stopConfirm i).fdrNone i) :=
  ((setFdrState s i x).trans (stopConfirm _ i)).trans (fdrNone _ i)

theorem externalClose (s : State) (i : Fin 32) : s.KeepsOrders (s.externalClose i) :=
  ((setFdrState s i _).trans (fdrNone _ i)).trans (raise _ _)

theorem stick (s : State) (i : Fin 32) : s.KeepsOrders (s.stick i) := (settle s i .stuck).trans (raise _ _)

theorem holdOpen (s : State) (i : Fin 32) : s.KeepsOrders (s.holdOpen i) :=
  (((setFdrState s i .heldOpen).trans (stopConfirm _ i)).trans (fdrOpen _ i .urgent)).trans (modFdr _ i _ id)

theorem takeFeeder (s : State) (i : Fin 32) (reason : ShedReason) : s.KeepsOrders (s.takeFeeder i reason) := by
  unfold State.takeFeeder
  extract_lets load t
  have ordered : s.KeepsOrders t :=
    ((setFdrState s i .shedPending).trans (fdrOpen _ i .urgent)).trans (startConfirm _ i)
  exact ordered.trans (of_same rfl)

theorem fdrShowsOpen (s : State) (i : Fin 32) : s.KeepsOrders (s.fdrShowsOpen i) := by
  unfold State.fdrShowsOpen
  split
  · exact setFdrState s i _
  · exact (setFdrState s i _).trans (stopConfirm _ i)
  · exact modFdr s i _ id
  · exact modFdr s i _ id
  · exact setFdrState s i _
  · exact refl s

theorem fdrShowsClosed (s : State) (i : Fin 32) : s.KeepsOrders (s.fdrShowsClosed i) := by
  unfold State.fdrShowsClosed
  split
  · exact setFdrState s i _
  · exact (unstack s i).trans (externalClose _ i)
  · exact (((setFdrState s i _).trans (stopConfirm _ i)).trans (unstack _ i)).trans (fdrNone _ i)
  · exact ite (fun _ => externalClose s i) fun _ => refl s
  · exact settle s i _
  · exact (setFdrState s i _).trans (fdrNone _ i)
  · exact refl s

/-- A feeder stands OPEN or CLOSE, and CLOSE is not sent again in COMMISSIONING (R112). -/
theorem fdrEcho (s : State) (i : Fin 32) (v : FdrValues) : s.KeepsOrders (s.fdrEcho i v) := by
  refine ite (fun _ => refl s) fun stands => ite (fun _ => modFdr s i _ id) fun _ => ite (fun _ => refl s) fun _ =>
    ite (fun _ => ite (fun _ => refl s) fun resends => ?_) fun _ => (modFdr s i _ id).trans (raise _ _)
  intro sound
  have allowed : s.Allows (s.fdr i).order := by
    obtain none | isOpen | isClose := (s.ordersSound_iff.mp sound).1 i
    · exact absurd (beq_iff_eq.mpr none) stands
    · exact isOpen ▸ s.allows_open
    · refine allows_of_mode (fun mode => resends ?_) (isClose ▸ nofun)
      simp [isClose, mode]
  exact ((modFdr s i _ id).trans (placeFor _ _ _ _ _ _ fun _ => allowed)) sound

theorem shedFdrTap (s : State) (i : Fin 32) : s.KeepsOrders (s.shedFdrTap i) := by
  unfold State.shedFdrTap
  split
  · exact refl s
  next v _ =>
    refine .trans (ite (fun _ => refl s) fun _ => ?_) (fdrEcho _ i v)
    split
    · exact fdrShowsOpen s i
    · exact fdrShowsClosed s i

/-! ## Demands (R116, R120, R122) -/

theorem endWalk (s : State) (reason : ShedReason) (short took : Bool) : s.KeepsOrders (s.endWalk reason short took) :=
  .trans (ite (fun _ => raise s .shedShort) fun _ => refl s) (ite (fun _ => raise _ _) fun _ => refl _)

theorem walk (q : Int) (reason : ShedReason) (is : List (Fin 32)) (sum : Int) (took : Bool) (s : State) :
    s.KeepsOrders (walk q reason is sum took s) := by
  induction is generalizing sum took s with
  | nil => exact endWalk s reason _ took
  | cons i is ih =>
    exact ite (fun _ => endWalk s reason _ took) fun _ => ite (fun _ => (takeFeeder s i reason).trans (ih _ _ _))
      fun _ => ih _ _ _

theorem demand (s : State) (q : Int) (reason : ShedReason) : s.KeepsOrders (s.demand q reason) :=
  walk q reason _ 0 false s

theorem reducedDemand (s : State) (q : Int) (reason : ShedReason) : s.KeepsOrders (s.reducedDemand q reason) :=
  ite (fun _ => refl s) fun _ => demand s _ reason

theorem fireStage (s : State) (n : Fin 6) : s.KeepsOrders (s.fireStage n) := by
  have staged : s.KeepsOrders { s with shed := { s.shed with stages := put s.shed.stages n ⟨.fired, none⟩ } } :=
    of_same rfl
  have marked : s.KeepsOrders (s.markFired n) := staged.trans (raise _ .ufStageFired)
  rw [State.fireStage_eq]
  exact ite (fun _ => marked.trans (demand _ _ _)) fun _ => marked

/-! ## Bus reports (R115, R119, R124, R125) -/

theorem judgeRecovery (s : State) (d : Int) : s.KeepsOrders (s.judgeRecovery d) := by
  refine ite (fun _ => refl s) fun _ => ite (fun _ => ?_) fun _ => of_same rfl
  split
  · exact refl s
  · exact ite (fun _ => of_same rfl) fun _ => of_same rfl

theorem judgeDwell (s : State) (d : Int) : s.KeepsOrders (s.judgeDwell d) :=
  ite (fun _ => ite (fun _ => of_same rfl) fun _ => refl s) fun _ => of_same rfl

/-- Restoration begins outside COMMISSIONING alone (R125). -/
theorem judgeRestore (s : State) : s.KeepsOrders s.judgeRestore := by
  unfold State.judgeRestore
  split
  · exact refl s
  next e _ _ =>
    refine ite (fun may => ?_) fun _ => refl s
    have mode : s.mode.mode ≠ .commissioning := by
      simp only [State.mayRestore, Bool.and_eq_true, bne_iff_ne] at may
      obtain ⟨⟨⟨⟨⟨⟨⟨⟨⟨-, mode⟩, -⟩, -⟩, -⟩, -⟩, -⟩, -⟩, -⟩, -⟩ := may
      exact mode
    unfold State.beginRestore
    extract_lets t
    have ordered : s.KeepsOrders t :=
      ((setFdrState s e.feeder .restoring).trans (fdrClose _ _ .routine mode)).trans (startConfirm _ _)
    exact ordered.trans (of_same rfl)

theorem shedBusTap (s : State) (d : Int) : s.KeepsOrders (s.shedBusTap d) := by
  refine ite (fun _ => refl s) fun _ => ?_
  extract_lets t u v
  have judged : s.KeepsOrders t := of_same rfl
  have begun : t.KeepsOrders u := ite (fun _ => of_same rfl) fun _ => refl t
  have fired : u.KeepsOrders v := forEach _ (fun n x => ite (fun _ => fireStage x n) fun _ => refl x) stageNumbers u
  exact ((((judged.trans begun).trans fired).trans (judgeRecovery v d)).trans (judgeDwell _ d)).trans (judgeRestore _)

/-! ## Timers, modes, blackout, black start, survey -/

theorem reShed (s : State) (e : StackEntry) : s.KeepsOrders (s.reShed e) := by
  have lowered : s.KeepsOrders (if s.shed.ufActive then
      { s with shed := { s.shed with shedEvent := s.shed.shedEvent - e.load } } else s) :=
    ite (fun _ => of_same rfl) fun _ => refl s
  exact lowered.trans (demand _ _ _)

theorem confirmExpiry (s : State) (i : Fin 32) : s.KeepsOrders (s.confirmExpiry i) := by
  have leaves : s.KeepsOrders ((s.unstack i).stick i) := (unstack s i).trans (stick _ i)
  unfold State.confirmExpiry
  split
  · split
    · exact stick s i
    · exact leaves.trans (reShed _ _)
  · exact leaves
  · exact stick s i
  · exact stopConfirm s i

theorem withdrawClose (s : State) (i : Fin 32) : s.KeepsOrders (s.withdrawClose i) := by
  refine ite (fun _ => refl s) fun _ => ?_
  split
  · exact settle s i .shed
  · exact (stopConfirm s i).trans (fdrNone _ i)
  all_goals exact refl s

theorem discardEntry (s : State) (e : StackEntry) : s.KeepsOrders (s.discardEntry e) :=
  settle s e.feeder (s.reportedState e.feeder)

theorem emptyStack (s : State) : s.KeepsOrders s.emptyStack := by
  unfold State.emptyStack
  extract_lets t
  have discarded : s.KeepsOrders t := forEach _ (fun e u => discardEntry u e) s.shed.stack s
  exact discarded.trans (of_same rfl)

theorem shedClearDown (s : State) : s.KeepsOrders s.shedClearDown :=
  (emptyStack s).trans (forEach _ (fun i t => ite (fun _ => holdOpen t i) fun _ => refl t) feeders _)

theorem shedSettle (s : State) : s.KeepsOrders s.shedSettle :=
  forEach _ (fun i t => ite (fun _ => ((setFdrState t i .stuck).trans (fdrNone _ i)).trans (raise _ _))
    fun _ => refl t) feeders s

theorem shedStepClose (s : State) (is : List (Fin 32)) (mode : s.mode.mode ≠ .commissioning) :
    s.KeepsOrders (s.shedStepClose is) :=
  forEach_outside mode _ (fun i t => by simp [apply_ite State.kept])
    (fun i t outside => ite (fun _ => (fdrClose t i .routine outside).trans (startConfirm _ i)) fun _ => refl t) is

theorem shedRelease (s : State) : s.KeepsOrders s.shedRelease :=
  forEach _ (fun i t => ite (fun _ => settle t i .openOther) fun _ => refl t) feeders s

theorem shedAdopt (s : State) : s.KeepsOrders s.shedAdopt :=
  (emptyStack s).trans (forEach _ (fun i t => ite (fun _ => settle t i _) fun _ => refl t) feeders _)

theorem commitFdr (s : State) (old new : Bank) (i : Fin 32) : s.KeepsOrders (s.commitFdr old new i) :=
  ite (fun _ => (unstack s i).trans (modFdr _ i _ fun _ => .inl rfl)) fun _ => refl s

end State.KeepsOrders
end Sys2Proof.Machine
end

section
/-! SUPPORT. The set sequencer (chapter 5) keeps the laws of the orders: in COMMISSIONING a new standing order of a set
is recorded and, but for an OPEN, not placed (R105). -/

namespace Sys2Proof.Machine

namespace State.KeepsOrders

/-! ## Standing orders and states -/

theorem genNone (s : State) (g : Fin 8) : s.KeepsOrders (s.genNone g) := (modGen s g _).trans (emptyFor _ _)

theorem genNewOrder (s : State) (g : Fin 8) {code : OrderCode} (cls : OrderClass) (order : code ≠ .none) :
    s.KeepsOrders (s.genNewOrder g code cls) := by
  refine ite (fun _ => (modGen s g _).trans (emptyFor _ _)) fun placed => ?_
  have allowed : s.Allows code := ⟨order, fun mode => by simpa [mode] using placed⟩
  exact (modGen s g _).trans (placeFor _ _ _ _ _ _ fun _ => allowed)

theorem genOrder (s : State) (g : Fin 8) {code : OrderCode} (order : code ≠ .none) :
    s.KeepsOrders (s.genOrder g code) :=
  ite (fun _ => refl s) fun _ => genNewOrder s g .routine order

theorem setGenState (s : State) (g : Fin 8) (x : GenState) (keep : Bool) : s.KeepsOrders (s.setGenState g x keep) :=
  (modGen s g _).trans (ite (fun _ => refl _) fun _ => of_same rfl)

/-- A state entered with a standing order, and its timer. -/
theorem entered (s : State) (g : Fin 8) (x : GenState) (keep : Bool) {code : OrderCode} (sec : Nat)
    (order : code ≠ .none) : s.KeepsOrders (((s.setGenState g x keep).genOrder g code).startSup g sec) :=
  ((setGenState s g x keep).trans (genOrder _ g order)).trans (modGen _ g _)

/-- A state entered standing NONE. -/
theorem enteredNone (s : State) (g : Fin 8) (x : GenState) (keep : Bool) :
    s.KeepsOrders ((s.setGenState g x keep).genNone g) := (setGenState s g x keep).trans (genNone _ g)

theorem enterNotReady (s : State) (g : Fin 8) : s.KeepsOrders (s.enterNotReady g) := enteredNone s g _ _

theorem enterStandby (s : State) (g : Fin 8) : s.KeepsOrders (s.enterStandby g) := enteredNone s g _ _

theorem enterStopping (s : State) (g : Fin 8) : s.KeepsOrders (s.enterStopping g) := entered s g _ _ _ nofun

theorem startCool (s : State) (g : Fin 8) : s.KeepsOrders (s.startCool g) :=
  ite (fun _ => enterStopping s g) fun _ => modGen s g _

theorem enterCooldown (s : State) (g : Fin 8) : s.KeepsOrders (s.enterCooldown g) :=
  ((setGenState s g .cooldown false).trans (genOrder _ g (code := .open) nofun)).trans
    (ite (fun _ => startCool _ g) fun _ => refl _)

theorem enterHot (s : State) (g : Fin 8) : s.KeepsOrders (s.enterHot g) :=
  (enteredNone s g .hot false).trans (ite (fun _ => enterCooldown _ g) fun _ => modGen _ g _)

theorem enterSyncing (s : State) (g : Fin 8) (dead : Bool) : s.KeepsOrders (s.enterSyncing g dead) :=
  entered s g _ _ _ (by cases dead <;> exact nofun)

theorem enterResting (s : State) (g : Fin 8) : s.KeepsOrders (s.enterResting g) := entered s g _ _ _ nofun

theorem enterCranking (s : State) (g : Fin 8) (attempts : Nat) : s.KeepsOrders (s.enterCranking g attempts) :=
  (((setGenState s g .cranking false).trans (modGen _ g _)).trans (genOrder _ g (code := .start) nofun)).trans
    (modGen _ g _)

theorem enterLockout (s : State) (g : Fin 8) {code : OrderCode} (order : code ≠ .none) :
    s.KeepsOrders (s.enterLockout g code) := by
  unfold State.enterLockout
  extract_lets t
  have locked : s.KeepsOrders t := ((setGenState s g .lockout false).trans (genOrder _ g order)).trans (raise _ .lockout)
  clear_value t
  split
  · exact locked
  · exact locked.trans (cutOrders t _)

theorem failedAttempt (s : State) (g : Fin 8) : s.KeepsOrders (s.failedAttempt g) :=
  (raise s .startFailed).trans (ite (fun _ => ite (fun _ => enterStopping _ g) fun _ => enterResting _ g)
    fun _ => enterLockout _ g nofun)

theorem failedClose (s : State) (g : Fin 8) : s.KeepsOrders (s.failedClose g) :=
  (raise s .startFailed).trans (ite (fun _ => enterCooldown _ g) fun _ => enterLockout _ g nofun)

theorem warmDone (s : State) (g : Fin 8) : s.KeepsOrders (s.warmDone g) :=
  ite (fun _ => failedAttempt s g) fun _ => ite (fun _ => enterSyncing s g false)
    fun _ => ite (fun _ => enterSyncing s g true) fun _ => enterHot s g

theorem enterWarmup (s : State) (g : Fin 8) : s.KeepsOrders (s.enterWarmup g) :=
  (enteredNone s g .warmup true).trans (ite (fun _ => warmDone _ g) fun _ => modGen _ g _)

theorem enterOnline (s : State) (g : Fin 8) : s.KeepsOrders (s.enterOnline g) :=
  (enteredNone s g .online true).trans (modGen _ g _)

/-! ## Requests and rounds -/

theorem startRequest (s : State) (named : Option (Fin 8)) (dead : Bool) :
    s.KeepsOrders (s.startRequest named dead) := by
  refine ite (fun _ => refl s) fun _ => ite (fun _ => refl s) fun _ => ?_
  split
  next => exact refl s
  next g _ =>
    unfold State.takeStart
    extract_lets t
    have started : s.KeepsOrders t := ite (fun _ => enterSyncing s g dead) fun _ => enterCranking s g _
    exact started.trans (ite (fun _ => modGen t g _) fun _ => refl t)

theorem stopSet (s : State) (g : Fin 8) : s.KeepsOrders (s.stopSet g) :=
  ite (fun _ => entered s g _ _ _ nofun) fun _ => refl s

theorem roundComplete (s : State) (m : Int) : s.KeepsOrders (s.roundComplete m) := by
  refine forEach _ (fun g t => ite (fun _ => refl t) fun _ => ?_) gensets s
  split
  · exact ite (fun _ => (setGenState t g .online false).trans (genOrder _ g (code := .load) nofun)) fun _ => refl t
  · exact setGenState t g .online false
  · exact refl t

/-! ## Trips and reports -/

theorem sourceLoss (s : State) (g : Fin 8) (load : Nat) : s.KeepsOrders (s.sourceLoss g load) :=
  (sourceLossRelease s).trans (ite (fun _ => (reducedDemand _ _ _).trans (raise _ _)) fun _ => refl _)

theorem tripEntry (s : State) (g : Fin 8) (v : GenValues) : s.KeepsOrders (s.tripEntry g v) :=
  ite (fun _ => enterCooldown s g) fun _ => enterNotReady s g

theorem trip (s : State) (g : Fin 8) (v : GenValues) : s.KeepsOrders (s.trip g v) := by
  have lost (load : Nat) : s.KeepsOrders ((s.sourceLoss g load).tripEntry g v) :=
    (sourceLoss s g load).trans (tripEntry _ g v)
  exact ite (fun _ => ite (fun _ => enterCooldown s g) fun _ => lost _)
    fun _ => ite (fun _ => lost _) fun _ => tripEntry s g v

theorem stoppedEntry (s : State) (g : Fin 8) (v : GenValues) : s.KeepsOrders (s.stoppedEntry g v) :=
  ite (fun _ => enterStandby s g) fun _ => enterNotReady s g

theorem unseenReturn (s : State) (g : Fin 8) (v : GenValues) : s.KeepsOrders (s.unseenReturn g v) := by
  unfold State.unseenReturn
  split
  · exact tripEntry s g v
  · exact ite (fun _ => (setGenState s g .unloading false).trans (modGen _ g _)) fun _ => setGenState s g .online false

theorem genTransition (s : State) (g : Fin 8) (v : GenValues) : s.KeepsOrders (s.genTransition g v) := by
  have notReady := enterNotReady s g
  have cooldown := enterCooldown s g
  have stopped := stoppedEntry s g v
  have failed := failedAttempt s g
  have opens : s.KeepsOrders (s.genOrder g .open) := genOrder s g nofun
  unfold State.genTransition
  extract_lets fault
  split
  next => exact ite (fun _ => enterStandby s g) fun _ => refl s
  next => exact ite (fun _ => notReady) fun _ => refl s
  next =>
    exact ite (fun _ => enterWarmup s g) fun _ => ite (fun _ => failed) fun _ => ite (fun _ => notReady) fun _ => refl s
  next => exact ite (fun _ => notReady) fun _ => refl s
  next => exact ite (fun _ => failed) fun _ => ite (fun _ => notReady) fun _ => refl s
  next => exact ite (fun _ => failed) fun _ => ite (fun _ => notReady) fun _ => refl s
  next =>
    exact ite (fun _ => enterOnline s g) fun _ => ite (fun _ => failedClose s g) fun _ =>
      ite (fun _ => notReady) fun _ => refl s
  next =>
    exact ite (fun _ => ite (fun _ => cooldown) fun _ => refl s) fun _ => ite (fun _ => trip s g v) fun _ => refl s
  next =>
    exact ite (fun _ => ite (fun _ => cooldown) fun _ => refl s) fun _ => ite (fun _ => trip s g v) fun _ =>
      ite (fun _ => opens.trans (modGen _ g _)) fun _ => refl s
  next =>
    exact ite (fun _ => stopped) fun _ => ite (fun _ => notReady) fun _ => ite (fun _ => startCool s g) fun _ => refl s
  next => exact ite (fun _ => stopped) fun _ => ite (fun _ => notReady) fun _ => refl s
  next => exact ite (fun _ => genOrder s g nofun) fun _ => refl s
  next => exact unseenReturn s g v

theorem unansweredEffect (s : State) (g : Fin 8) : s.KeepsOrders (s.unansweredEffect g) := by
  unfold State.unansweredEffect
  split
  iterate 3 exact failedAttempt s g
  · exact failedClose s g
  iterate 2 exact genNone s g
  iterate 3 exact enterNotReady s g
  all_goals exact refl s

/-- In COMMISSIONING what a set stands is not sent again, but for an OPEN (R105). -/
theorem genEcho (s : State) (g : Fin 8) (v : GenValues) : s.KeepsOrders (s.genEcho g v) := by
  refine ite (fun _ => refl s) fun stands => ite (fun _ => modGen s g _) fun _ => ite (fun _ => refl s) fun _ =>
    ite (fun _ => ite (fun _ => refl s) fun resends => ?_)
      fun _ => ((modGen s g _).trans (raise _ _)).trans (unansweredEffect _ g)
  have allowed : s.Allows (s.gen g).order := ⟨by simpa using stands, fun mode => by simpa [mode] using resends⟩
  exact (modGen s g _).trans (placeFor _ _ _ _ _ _ fun _ => allowed)

theorem genGoesLost (s : State) (g : Fin 8) : s.KeepsOrders (s.genGoesLost g) := by
  unfold State.genGoesLost
  split
  · exact enterNotReady s g
  · exact (setGenState s g .unseen false).trans (modGen _ g _)
  · exact (setGenState s g .unseen false).trans (modGen _ g _)
  · exact refl s

theorem seqBusTap (s : State) : s.KeepsOrders s.seqBusTap :=
  ite (fun _ => forEach _ (fun g t => ite (fun _ => genOrder t g (code := .closeSync) nofun) fun _ => refl t) gensets s)
    fun _ => refl s

/-! ## Timers, modes, clear-down, adoption, commits -/

theorem restDone (s : State) (g : Fin 8) (wanted : Bool) : s.KeepsOrders (s.restDone g wanted) :=
  ite (fun _ => enterCranking s g _) fun _ => enterStandby s g

theorem unloadDone (s : State) (g : Fin 8) : s.KeepsOrders (s.unloadDone g) :=
  (modGen s g _).trans (ite (fun _ => genOrder _ g nofun) fun _ => refl _)

theorem clearLockout (s : State) (g : Fin 8) : s.KeepsOrders (s.clearLockout g) :=
  (enterNotReady s g).trans (modGen _ g _)

theorem releaseLockouts (s : State) : s.KeepsOrders s.releaseLockouts :=
  forEach _ (fun g t => ite (fun _ => clearLockout t g) fun _ => refl t) gensets s

theorem genClearDown (s : State) : s.KeepsOrders s.genClearDown :=
  forEach _ (fun g t => ite (fun _ => refl t) fun _ =>
    ite (fun _ => genNewOrder t g (code := .open) .urgent nofun) fun _ =>
      ite (fun _ => enterHot t g) fun _ => refl t) gensets s

theorem genAbandon (s : State) : s.KeepsOrders s.genAbandon := by
  refine forEach _ (fun g t => ?_) gensets s
  extract_lets u
  have toHot : t.KeepsOrders u := ite (fun _ => enterHot t g) fun _ => refl t
  exact toHot.trans (ite (fun _ => refl u) fun _ => modGen u g _)

theorem genSettled (s : State) : s.KeepsOrders s.genSettled :=
  forEach _ (fun g t => ite (fun _ => modGen t g _) fun _ => refl t) gensets s

theorem energizeFailure (s : State) : s.KeepsOrders s.energizeFailure :=
  forEach _ (fun g t => ite (fun _ => failedClose t g) fun _ => refl t) gensets s

theorem adoptGen (s : State) (g : Fin 8) : s.KeepsOrders (s.adoptGen g) := by
  unfold State.adoptGen
  extract_lets t
  have cleared : s.KeepsOrders t := modGen s g _
  refine cleared.trans ?_
  split
  · exact enterNotReady t g
  · split
    · exact enterNotReady t g
    · exact (enteredNone t g .online false).trans (modGen _ g _)
    · exact enterCooldown t g
    · exact enterStopping t g
    · exact ite (fun _ => enterStandby t g) fun _ => enterNotReady t g
    · exact enterNotReady t g

theorem genAdopt (s : State) : s.KeepsOrders s.genAdopt :=
  forEach _ (fun g t => ite (fun _ => adoptGen t g) fun _ => refl t) gensets s

theorem endStarts (n : Nat) (s : State) : s.KeepsOrders (endStarts n s) := by
  have ends (t : State) (g : Fin 8) : t.KeepsOrders (t.endStart g) := by
    unfold State.endStart
    split
    iterate 2 exact enterHot t g
    iterate 2 exact enterStopping t g
    exact refl t
  induction n generalizing s with
  | zero => exact refl s
  | succ n ih =>
    obtain ⟨within, -⟩ | ⟨g, -, next⟩ := endStarts_cases n s
    · rw [within]
      exact refl s
    · rw [next]
      exact (ends s g).trans (ih _)

theorem commitGen (s : State) (old new : Bank) (wasLost : Bool) (g : Fin 8) :
    s.KeepsOrders (s.commitGen old new wasLost g) :=
  ite (fun _ => (setGenState s g .notReady false).trans (modGen _ g _)) fun _ => ite (fun _ => modGen s g _) fun _ =>
    ite (fun _ => (modGen s g _).trans (ite (fun _ => genGoesLost _ g) fun _ => refl _)) fun _ => refl s

end State.KeepsOrders
end Sys2Proof.Machine
end

section
/-! SUPPORT. The black-start controller (chapter 7) and the mode control (chapter 8) keep the laws of the orders: what the
controller orders of its neighbours outside COMMISSIONING, and the entry to COMMISSIONING itself (R165). -/

namespace Sys2Proof.Machine

namespace State.KeepsOrders

/-! ## The black-start controller -/

theorem setIsland (s : State) (x : Island) : s.KeepsOrders (s.setIsland x) := (modBs s _).trans (raise _ _)

theorem endUf (s : State) : s.KeepsOrders s.endUf := of_same rfl

theorem enterAbandoned (s : State) : s.KeepsOrders s.enterAbandoned := by
  unfold State.enterAbandoned
  extract_lets t
  have acted : s.KeepsOrders t :=
    (((setIsland s .abandoned).trans (raise _ .bsAbandoned)).trans (genAbandon _)).trans (endUf _)
  exact acted.trans (modBs t _)

theorem chooseFirstSource (s : State) : s.KeepsOrders s.chooseFirstSource := by
  refine ite (fun _ => refl s) fun _ => ?_
  split
  · exact refl s
  · exact startRequest s _ true

theorem enterFirstSource (s : State) : s.KeepsOrders s.enterFirstSource :=
  ((setIsland s .firstSource).trans (ite (fun _ => endUf _) fun _ => refl _)).trans
    (ite (fun _ => enterAbandoned _) fun _ => chooseFirstSource _)

theorem applyWaiting (s : State) : s.KeepsOrders s.applyWaiting :=
  ite (fun _ => enterFirstSource s) fun _ => refl s

theorem completeClearDown (s : State) : s.KeepsOrders s.completeClearDown :=
  (((modBs s _).trans (shedSettle _)).trans (modBs _ _)).trans (applyWaiting _)

theorem judgeSettled (s : State) : s.KeepsOrders s.judgeSettled :=
  ite (fun _ => completeClearDown s) fun _ => refl s

/-- A clear-down disconnects the PV blocks: in COMMISSIONING it is DEFERRED (R140). -/
theorem orderClearDown (s : State) (mode : s.mode.mode ≠ .commissioning) : s.KeepsOrders s.orderClearDown := by
  unfold State.orderClearDown
  extract_lets t
  have timed : s.KeepsOrders t := modBs s _
  have outside : t.shedClearDown.mode.mode ≠ .commissioning :=
    mode_of_kept (s := t) (State.shedClearDown_kept t) mode
  exact (((timed.trans (shedClearDown t)).trans (pvClearDown _ outside)).trans (genClearDown _)).trans (judgeSettled _)

theorem enterBlackout (s : State) : s.KeepsOrders s.enterBlackout := by
  unfold State.enterBlackout
  extract_lets t u
  have emptied : s.KeepsOrders t := ((setIsland s .blackout).trans (endUf _)).trans (emptyStack _)
  have begun : t.KeepsOrders u := modBs t _
  exact (emptied.trans begun).trans
    (ite (fun _ => modBs u _) fun mode => orderClearDown u (by simpa using mode))

theorem busLost (s : State) : s.KeepsOrders s.busLost :=
  ite (fun _ => enterBlackout s) fun _ => enterAbandoned s

theorem judgeBlind (s : State) : s.KeepsOrders s.judgeBlind := ite (fun _ => busLost s) fun _ => refl s

theorem enterSurvey (s : State) : s.KeepsOrders s.enterSurvey := by
  unfold State.enterSurvey
  extract_lets t
  have ended : s.KeepsOrders t := (setIsland s .survey).trans (endUf _)
  exact ended.trans (modBs t _)

theorem adopt (s : State) : s.KeepsOrders s.adopt :=
  ((((genAdopt s).trans (shedAdopt _)).trans (pvAdopt _)).trans (setIsland _ .balancing)).trans (of_same rfl)

theorem judgeSurvey (s : State) (atExpiry : Bool) : s.KeepsOrders (s.judgeSurvey atExpiry) := by
  unfold State.judgeSurvey
  extract_lets noChange
  have kept : s.KeepsOrders noChange := ite (fun _ => enterAbandoned s) fun _ => refl s
  split
  · exact ite (fun _ => adopt s) fun _ => kept
  · exact ite (fun _ => adopt s) fun _ => kept
  · exact ite (fun _ => adopt s) fun _ => ite (fun _ => enterBlackout s) fun _ => kept

theorem surveyTap (s : State) (judging : Bool) : s.KeepsOrders (s.surveyTap judging) :=
  ite (fun _ => ite (fun _ => judgeSurvey s false) fun _ => refl s) fun _ =>
    ite (fun _ => (modBs s _).trans (judgeSurvey _ false)) fun _ => refl s

theorem enterEnergizing (s : State) : s.KeepsOrders s.enterEnergizing := by
  unfold State.enterEnergizing
  extract_lets t
  exact (setIsland s .energizing).trans (modBs t _)

theorem energizeFailed (s : State) : s.KeepsOrders s.energizeFailed :=
  (modBs s _).trans (ite (fun _ => enterAbandoned _) fun _ => enterFirstSource _)

theorem enterRestoring (s : State) : s.KeepsOrders s.enterRestoring := by
  unfold State.enterRestoring
  extract_lets t
  have settled : s.KeepsOrders t := (setIsland s .restoring).trans (genSettled _)
  exact settled.trans (modBs t _)

theorem permitNext (s : State) (mode : s.mode.mode ≠ .commissioning) : s.KeepsOrders s.permitNext := by
  unfold State.permitNext
  split
  next b _ =>
    extract_lets t u
    have pointed : s.KeepsOrders t := modBs s _
    have permitted : t.KeepsOrders u := pvPermitRequest t b mode
    exact (pointed.trans permitted).trans (modBs u _)
  next => exact ((modBs s _).trans (setIsland _ .balancing)).trans (shedRelease _)

/-- In COMMISSIONING the permit is due and not given (R154). -/
theorem permitExpiry (s : State) : s.KeepsOrders s.permitExpiry :=
  ite (fun _ => modBs s _) fun mode => permitNext s (by simpa using mode)

theorem enterPvReturn (s : State) : s.KeepsOrders s.enterPvReturn := by
  have hold (t : State) : t.KeepsOrders t.startPvHold := ite (fun _ => permitExpiry t) fun _ => modBs t _
  have base (t : State) : t.KeepsOrders (t.setRampBase 0) := of_same rfl
  exact (((setIsland s .pvReturn).trans (base _)).trans (modBs _ _)).trans (hold _)

theorem shortStep (s : State) (n : Fin 16) : s.KeepsOrders (s.shortStep n) :=
  (modBs s _).trans (ite (fun _ => refl _) fun _ => ite (fun _ => refl _) fun _ =>
    ite (fun _ => startRequest _ none false) fun _ => (modBs _ _).trans (raise _ _))

theorem executeStep (s : State) (n : Fin 16) (mode : s.mode.mode ≠ .commissioning) :
    s.KeepsOrders (s.executeStep n) := by
  unfold State.executeStep
  extract_lets t
  have closes : s.KeepsOrders t := shedStepClose s _ mode
  exact closes.trans (modBs t _)

/-- In COMMISSIONING no step is judged (R154). -/
theorem judgeStep (s : State) : s.KeepsOrders s.judgeStep := by
  refine ite (fun _ => refl s) fun judged => ?_
  have mode : s.mode.mode ≠ .commissioning := by
    simp only [Bool.or_eq_true, beq_iff_eq, not_or] at judged
    exact judged.1
  extract_lets t
  have noted : s.KeepsOrders t := modBs s _
  refine noted.trans ?_
  split
  · exact enterPvReturn t
  · exact ite (fun _ => refl t) fun _ => ite (fun _ => executeStep t _ mode) fun _ => shortStep t _

theorem bsBusTap (s : State) : s.KeepsOrders s.bsBusTap := by
  unfold State.bsBusTap
  split
  · exact surveyTap s true
  · exact ite (fun _ => busLost s) fun _ => refl s
  · exact ite (fun _ => busLost s) fun _ => refl s
  · exact ite (fun _ => busLost s) fun _ => judgeStep s
  · exact ite (fun _ => enterRestoring s) fun _ => refl s
  · exact ite (fun _ => enterSurvey s) fun _ => refl s
  all_goals exact refl s

theorem onGenChange (s : State) (c : GenChange) : s.KeepsOrders (s.onGenChange c) := by
  refine ite (fun _ => refl s) fun _ => ?_
  extract_lets t
  have held : s.KeepsOrders t := ite (fun _ => modBs s _) fun _ => refl s
  clear_value t
  refine held.trans ?_
  have blind : t.KeepsOrders (if c.old.onLine && !c.new.onLine then t.judgeBlind else t) :=
    ite (fun _ => judgeBlind t) fun _ => refl t
  split
  iterate 3 exact blind
  · exact ite (fun _ => enterEnergizing t) fun _ => ite (fun _ => enterAbandoned t) fun _ => chooseFirstSource t
  · exact ite (fun _ => energizeFailed t) fun _ => refl t
  all_goals exact refl t

theorem drain (s : State) : s.KeepsOrders s.drain := by
  have fuelled (n : Nat) : ∀ t : State, t.KeepsOrders (drainFuel n t) := by
    induction n with
    | zero => exact fun t => of_same rfl
    | succ n ih =>
      intro t
      unfold drainFuel
      split
      · exact refl t
      next c cs _ =>
        have taken : t.KeepsOrders { t with seq := { t.seq with changes := cs } } := of_same rfl
        exact (taken.trans (onGenChange _ c)).trans (ih _)
  exact fuelled 512 s

theorem drained {s t : State} (h : s.KeepsOrders t) : s.KeepsOrders t.drain := h.trans (drain t)

theorem limitDone (s : State) : s.KeepsOrders s.limitDone := by
  refine (modBs s fun b => { b with limit := none }).trans ?_
  dsimp only [State.limitDone]
  split
  · exact enterAbandoned _
  · exact enterAbandoned _
  · exact ite (fun _ => modBs _ _) fun _ => (energizeFailure _).trans (enterAbandoned _)
  all_goals exact refl _

theorem energizeDone (s : State) : s.KeepsOrders s.energizeDone :=
  (modBs s _).trans (ite (fun _ => (energizeFailure _).trans (energizeFailed _)) fun _ => refl _)

theorem surveyDone (s : State) : s.KeepsOrders s.surveyDone :=
  (modBs s _).trans (ite (fun _ => judgeSurvey _ true) fun _ => refl _)

theorem clearDownDone (s : State) : s.KeepsOrders s.clearDownDone :=
  (modBs s _).trans (ite (fun _ => completeClearDown _) fun _ => refl _)

theorem permitDone (s : State) : s.KeepsOrders s.permitDone :=
  ite (fun _ => drained (permitExpiry s)) fun _ => refl s

theorem proceed (s : State) : s.KeepsOrders s.proceed := ite (fun _ => enterBlackout s) fun _ => enterFirstSource s

theorem bsLeaveCommissioning (s : State) (mode : s.mode.mode ≠ .commissioning) :
    s.KeepsOrders s.bsLeaveCommissioning :=
  ite (fun _ => orderClearDown s mode) fun _ => ite (fun _ => chooseFirstSource s) fun _ =>
    ite (fun _ => (modBs s _).trans (permitNext _ mode)) fun _ => refl s

end State.KeepsOrders

/-! ## Mode control -/

/-- The withdrawals at the entry to COMMISSIONING name every order but OPEN (R72, R105, R127). -/
theorem State.entersCommissioning_law {s : State} (sound : s.OrdersSound) :
    s.curEnterCommissioning.seqEnterCommissioning.shedEnterCommissioning.OrdersSound ∧
      s.curEnterCommissioning.seqEnterCommissioning.shedEnterCommissioning.CommissioningLaw := by
  have among := (s.ordersSound_iff.mp sound).2
  have opens := (((among.withdraw [.cap, .disconnect, .permit]).withdraw
    [.start, .stop, .unload, .load, .closeSync, .closeDead]).withdraw [.close]).mono (Q := (· = .open))
      fun c => by cases c <;> simp
  have withdrawn := ((KeepsOrders.withdraw s [.cap, .disconnect, .permit]).trans
    (.withdraw _ [.start, .stop, .unload, .load, .closeSync, .closeDead])).trans (.withdraw _ [.close])
  unfold State.curEnterCommissioning State.seqEnterCommissioning State.shedEnterCommissioning
  generalize State.withdraw _ [.close] = t at opens withdrawn ⊢
  have closes : t.KeepsOrders (forEach feeders (fun i u => u.withdrawClose i) t) :=
    .forEach _ (fun i u => .withdrawClose u i) feeders t
  obtain ⟨soundAfter, law⟩ := closes (withdrawn sound).1
  exact ⟨soundAfter, law (t.commissioningLaw_iff.mpr fun _ => opens)⟩

/-- A change of mode into COMMISSIONING is handed on: the law of R165 holds from then on. -/
theorem State.handMode_entersCommissioning {s : State} {old : Mode} (now : s.mode.mode = .commissioning)
    (before : old ≠ .commissioning) (sound : s.OrdersSound) :
    (s.handMode old).OrdersSound ∧ (s.handMode old).CommissioningLaw := by
  have handed : s.handMode old =
      s.curEnterCommissioning.seqEnterCommissioning.shedEnterCommissioning.drain := by
    simp [State.handMode, now, before]
  obtain ⟨soundBefore, lawBefore⟩ := State.entersCommissioning_law sound
  obtain ⟨soundAfter, law⟩ := KeepsOrders.drain _ soundBefore
  rw [handed]
  exact ⟨soundAfter, law lawBefore⟩

namespace State.KeepsOrders

/-- A change of mode that does not enter COMMISSIONING is handed on. -/
theorem handMode (s : State) (old : Mode) (stays : s.mode.mode = .commissioning → old = .commissioning) :
    s.KeepsOrders (s.handMode old) := by
  have notEntered : ¬ (s.mode.mode == .commissioning && old != .commissioning) = true := by simpa using stays
  unfold State.handMode
  extract_lets new t u v
  have same : t = s := if_neg notEntered
  clear_value t
  subst same
  have leaves : t.KeepsOrders u := ite (fun left => bsLeaveCommissioning t (by simp_all [new])) fun _ => refl t
  have waits : u.KeepsOrders v := ite (fun _ => applyWaiting u) fun _ => refl u
  exact drained (leaves.trans waits)

/-- The mode changes, and the law of R165 binds from the entry to COMMISSIONING on (R157, R165). -/
theorem applyMode (s : State) (m : Mode) (src : ModeSource) : s.KeepsOrders (s.applyMode m src) := by
  unfold State.applyMode
  extract_lets old changed t
  by_cases enters : m = .commissioning ∧ old ≠ .commissioning
  · obtain ⟨now, before⟩ := enters
    intro sound
    have soundNow : t.OrdersSound := sound
    have mode : (t.raise .modeChange).mode.mode = .commissioning := by
      rw [show (t.raise .modeChange).mode = t.mode from congrArg Kept.mode (t.raise_kept _)]
      exact now
    rw [if_pos (by simp [changed, now, before])]
    obtain ⟨soundAfter, law⟩ := State.handMode_entersCommissioning mode before (raise t .modeChange soundNow).1
    exact ⟨soundAfter, fun _ => law⟩
  · have stays : t.mode.mode = .commissioning → old = .commissioning := fun now => by
      by_contra before
      exact enters ⟨now, before⟩
    have set : s.KeepsOrders t := of_outbound stays rfl
    refine set.trans (ite (fun _ => (raise t _).trans (handMode _ _ fun now => stays ?_)) fun _ => refl t)
    rwa [show (t.raise .modeChange).mode = t.mode from congrArg Kept.mode (t.raise_kept _)] at now

theorem returnToDirective (s : State) : s.KeepsOrders s.returnToDirective := by
  have stopped : s.KeepsOrders (s.modMode fun x => { x with lineTimer := none }) := of_same rfl
  exact stopped.trans (applyMode _ _ _)

theorem trainDone (s : State) : s.KeepsOrders s.trainDone := by
  have selects (t : State) (m : Mode) : t.KeepsOrders (t.selectLine m) := (applyMode t m .line).trans (of_same rfl)
  have releases (t : State) : t.KeepsOrders t.releaseTrain := drained ((returnToDirective t).trans (releaseLockouts _))
  have proceeds (t : State) : t.KeepsOrders t.trainProceed := ite (fun _ => proceed t) fun _ => refl t
  have taken : s.KeepsOrders (s.modMode fun x => { x with train := none, trainCount := 0 }) := of_same rfl
  exact taken.trans (ite (fun _ => selects _ _) fun _ => ite (fun _ => selects _ _) fun _ =>
    ite (fun _ => releases _) fun _ => ite (fun _ => drained (proceeds _)) fun _ => refl _)

theorem lineLow (s : State) : s.KeepsOrders s.lineLow :=
  ite (fun _ => refl s) fun _ => ite (fun _ => of_same rfl) fun _ => of_same rfl

theorem lineHigh (s : State) : s.KeepsOrders s.lineHigh :=
  ite (fun _ => refl s) fun _ => ite (fun _ => of_same rfl) fun _ => ite (fun _ => of_same rfl) fun _ => of_same rfl

end State.KeepsOrders
end Sys2Proof.Machine
end

section
/-! SUPPORT. Reports, rounds, directives, the loop and the commit keep the laws of the orders, and with them every command
(R165). -/

namespace Sys2Proof.Machine

/-! ## Transmitters -/

theorem Tx.orphan_inserting {t : Tx} {r : EntryRef} {f : Frame} {x : Bool} (h : t.orphan = .inserting r f x) :
    ∃ y, t = .inserting r f y := by
  cases t with
  | idle => cases h
  | forwarding => cases h
  | inserting r' f' y => cases h; exact ⟨y, rfl⟩

theorem PortState.cutOff_tx (x : PortState) : x.cutOff.tx = .idle := by
  unfold PortState.cutOff
  split <;> rfl

theorem State.powered_port (s : State) (strap : Addr) (mntHigh : Bool) (loaded : Option Bank) (p : Port) :
    (s.powered strap mntHigh loaded).port p = (s.port p).cutOff := by
  cases p <;> rfl

theorem State.restarted_port_tx (s : State) (p : Port) : (s.restarted.port p).tx = (s.port p).tx.orphan := by
  cases p <;> rfl

/-- An insertion that begins is of an order that waits (R16). -/
theorem State.OrdersAmong.opportunity {P : OrderCode → Prop} {s : State} (h : s.OrdersAmong P) (p : Port) :
    (s.opportunity p).OrdersAmong P := by
  obtain passed | ⟨own, r, f, made, begun⟩ := s.opportunity_cases p
  · rwa [passed]
  rw [begun]
  refine ⟨fun a o waits => h.waits a o (by simpa using waits), fun q a g x sends => ?_⟩
  obtain new | old := State.modPort_inserting sends
  · cases new
    obtain ⟨o, waits, rfl⟩ := Option.map_eq_some_iff.mp made
    exact ⟨o.code, h.waits a o waits, rfl⟩
  · exact h.sends q a g x old

theorem State.opportunity_mode (s : State) (p : Port) : (s.opportunity p).mode = s.mode := by
  obtain passed | ⟨own, r, f, -, begun⟩ := s.opportunity_cases p
  · rw [passed]
  · rw [begun, State.modPort_mode]

namespace State.KeepsOrders

/-! ## Reports and freshness -/

theorem tapRecord (s : State) (u : UnitRef) (p : List Byte) : s.KeepsOrders (s.tapRecord u p) := by
  cases u <;> exact of_same rfl

theorem handTap (s : State) (u : UnitRef) : s.KeepsOrders (s.handTap u) := by
  have survey (t : State) (judging : Bool) : t.KeepsOrders (if t.bs.island == .survey then t.surveyTap judging else t) :=
    ite (fun _ => surveyTap t judging) fun _ => refl t
  cases u with
  | genset g =>
    unfold State.handTap
    dsimp only
    split
    next => exact refl s
    next v _ =>
      have judged := drained ((drained (genTransition s g v)).trans (genEcho _ g v))
      exact drained (judged.trans (survey _ true))
  | pv b => exact drained ((curTap s b).trans (survey _ false))
  | feeder i =>
    refine drained ((shedFdrTap s i).trans ?_)
    exact ite (fun _ => surveyTap _ false) fun _ => judgeSettled _
  | busmeter =>
    unfold State.handTap
    dsimp only
    split
    next => exact refl s
    next v _ => exact drained (((shedBusTap s v.dev).trans (seqBusTap _)).trans (bsBusTap _))

theorem takeReport (s : State) (src : Addr) (k : Byte) (p : List Byte) : s.KeepsOrders (s.takeReport src k p) := by
  unfold State.takeReport
  split
  next => exact of_same rfl
  next u _ => exact ite (fun _ => (tapRecord s u p).trans (handTap _ u)) fun _ => of_same rfl

theorem recordLost (s : State) (u : UnitRef) : s.KeepsOrders (s.recordLost u) := by cases u <;> exact of_same rfl

theorem shedBusLost (s : State) : s.KeepsOrders s.shedBusLost := of_same rfl

theorem handLost (s : State) (u : UnitRef) : s.KeepsOrders (s.handLost u) := by
  cases u with
  | genset g => exact drained (genGoesLost s g)
  | pv b => exact refl s
  | feeder i => exact drained (judgeSettled s)
  | busmeter => exact drained ((shedBusLost s).trans (judgeBlind _))

theorem lateDone (s : State) (u : UnitRef) : s.KeepsOrders (s.lateDone u) := by
  refine ite (fun _ => ?_) fun _ => refl s
  cases u <;> exact of_same rfl

/-! ## The balance round -/

theorem round (s : State) : s.KeepsOrders s.round := by
  refine ite (fun _ => ?_) fun _ => of_same rfl
  have figured : s.KeepsOrders { s with bal := s.roundBalance } := of_same rfl
  refine figured.trans ?_
  unfold State.computedRound State.handRound
  extract_lets f t u v w
  have rounded : ({ s with bal := s.roundBalance } : State).KeepsOrders t := (allocate _ _ _).trans (roundComplete _ _)
  have started : t.KeepsOrders u := ite (fun _ => startRequest t none false) fun _ => refl t
  have stopped : u.KeepsOrders v := by
    unfold v
    split
    · exact refl u
    · exact stopSet u _
  have shed : v.KeepsOrders w := by
    unfold w
    split
    · exact refl v
    · exact reducedDemand v _ _
  exact drained (((rounded.trans started).trans stopped).trans shed)

/-! ## Directives -/

theorem doSetMode (s : State) (a : List Byte) : s.KeepsOrders (s.doSetMode a).state := by
  unfold State.doSetMode
  split
  next => exact refl s
  next m _ =>
    split
    · exact refl s
    · have selected : s.KeepsOrders (s.modMode fun x => { x with dirMode := m }) := of_same rfl
      simp only [apply_ite Carried.state]
      exact ite (fun _ => refl s) fun _ => selected.trans (applyMode _ m.toMode .directive)

theorem doClearLockout (s : State) (a : List Byte) : s.KeepsOrders (s.doClearLockout a).state := by
  unfold State.doClearLockout
  split
  next => exact refl s
  next g _ =>
    simp only [apply_ite Carried.state]
    exact ite (fun _ => refl s) fun _ => ite (fun _ => drained (clearLockout s g)) fun _ => refl s

theorem doBlackStart (s : State) : s.KeepsOrders s.doBlackStart.state := by
  simp only [State.doBlackStart, apply_ite Carried.state]
  exact ite (fun _ => drained (proceed s)) fun _ => refl s

theorem doAbandon (s : State) : s.KeepsOrders s.doAbandon.state := by
  have abandoned := drained (enterAbandoned s)
  unfold State.doAbandon
  split <;> dsimp only
  iterate 3 exact abandoned
  all_goals exact refl s

theorem carryOut (s : State) (code : Byte) (a : List Byte) : s.KeepsOrders (s.carryOut code a).state := by
  unfold State.carryOut
  split
  · rw [State.Moves.doReadTable_state]; exact refl s
  iterate 5 exact of_same rfl
  · rw [State.Moves.doReadUnit_state]; exact refl s
  iterate 2 exact refl s
  · exact doSetMode s a
  · exact doClearLockout s a
  · exact doBlackStart s
  · exact doAbandon s
  · exact of_same rfl

theorem takeDirective (s : State) (src : Addr) (code token : Byte) (a : List Byte) :
    s.KeepsOrders (s.takeDirective src code token a) := by
  refine ite (fun _ => refl s) fun _ => ite (fun _ => of_same rfl) fun _ => ?_
  have judged : s.KeepsOrders (s.judgeDirective src code a).state := by
    unfold State.judgeDirective
    simp only [apply_ite Carried.state]
    exact ite (fun _ => refl s) fun _ => ite (fun _ => refl s) fun _ => ite (fun _ => refl s) fun _ => carryOut s code a
  have joined (t : State) (r : Reply) : t.KeepsOrders (t.join src code token r) := of_same rfl
  exact judged.trans (joined _ _)

/-! ## The loop -/

/-- A change of a port that begins no insertion. -/
theorem modPort (s : State) (p : Port) (f : PortState → PortState)
    (h : ∀ r g x, (f (s.port p)).tx = .inserting r g x → ∃ y, (s.port p).tx = .inserting r g y) :
    s.KeepsOrders (s.modPort p f) := of_aside (.modPort s p f h) (s.modPort_mode p f) (s.modPort_shed p f)

theorem modPort_of_tx (s : State) (p : Port) (f : PortState → PortState) (h : (f (s.port p)).tx = (s.port p).tx) :
    s.KeepsOrders (s.modPort p f) := modPort s p f fun _ _ x hx => ⟨x, h ▸ hx⟩

theorem mapMarks (s : State) (f : Marks → Marks) : s.KeepsOrders (s.mapMarks f) :=
  of_aside (.mapMarks s f) (s.mapMarks_mode f) (s.mapMarks_shed f)

theorem portEntersUp (s : State) (p : Port) : s.KeepsOrders (s.portEntersUp p) := by
  unfold State.portEntersUp
  extract_lets t u
  have up : s.KeepsOrders t := modPort_of_tx s p _ rfl
  have marks : t.KeepsOrders u := ite (fun _ => mapMarks t _) fun _ => refl t
  exact (up.trans marks).trans (raise u _)

theorem losePort (s : State) (p : Port) : s.KeepsOrders (s.losePort p) :=
  ite (fun _ => modPort_of_tx s p _ rfl) fun _ =>
    ((modPort_of_tx s p _ rfl).trans (mapMarks _ _)).trans (raise _ _)

theorem windowDone (s : State) (p : Port) : s.KeepsOrders (s.windowDone p) := by
  unfold State.windowDone
  extract_lets old new t
  have judged : s.KeepsOrders t := modPort_of_tx s p _ rfl
  exact judged.trans (ite (fun _ => refl t) fun _ => raise t _)

theorem intake (s : State) (f : Frame) : s.KeepsOrders (s.intake f) := by
  unfold State.intake
  split
  next h =>
    refine ite (fun _ => ?_) fun _ => refl s
    have counted : s.KeepsOrders (s.acceptSeq ⟨(lowSix f.src).val, h⟩ f.seq) := of_same rfl
    refine counted.trans (ite (fun _ => takeReport _ _ _ _) fun _ => ?_)
    unfold State.takePayload
    split
    · exact takeDirective _ _ _ _ _
    · exact refl _
  next => exact refl s

theorem handleFrame (s : State) (p : Port) (f : Frame) : s.KeepsOrders (s.handleFrame p f) := by
  have forwards (t : State) : t.KeepsOrders (t.forward p f) :=
    ite (fun _ => refl t) fun _ => modPort t _ _ fun _ _ x h => ⟨x, PortState.placeForward_inserting h⟩
  have offers (t : State) : t.KeepsOrders (t.offer f) := ite (fun _ => refl t) fun _ => intake t f
  exact ite (fun _ => refl s) fun _ => ite (fun _ => offers s) fun _ =>
    ite (fun _ => (forwards s).trans (offers _)) fun _ => ite (fun _ => (forwards s).trans (offers _))
      fun _ => forwards s

theorem receive (s : State) (p : Port) (f : RxFrame) : s.KeepsOrders (s.receive p f) := by
  unfold State.receive
  split
  next => exact refl s
  next k _ =>
    refine modPort_of_tx s p _ ?_
    unfold PortState.countError
    split <;> rfl
  next g _ =>
    have counted : s.KeepsOrders (s.countGood p) :=
      ite (fun _ => ite (fun _ => portEntersUp s p) fun _ => modPort_of_tx s p _ rfl) fun _ => refl s
    exact counted.trans (handleFrame _ p g)

theorem sourceLost (s : State) (src : Addr) (i : Fin 63) : s.KeepsOrders (s.sourceLost src i) := by
  have invalid : s.KeepsOrders { s with loop := { s.loop with
      dup := upd s.loop.dup i fun e => { e with valid := false, lost := none } } } := of_same rfl
  refine invalid.trans ?_
  unfold State.sourceLost
  dsimp only
  split
  next => exact refl _
  next u _ => exact ite (fun _ => refl _) fun _ => (recordLost _ u).trans (handLost _ u)

theorem opportunity (s : State) (p : Port) : s.KeepsOrders (s.opportunity p) := by
  obtain ⟨-, -, -, shed, -⟩ := s.opportunity_jobs p
  exact of_parts (fun now => s.opportunity_mode p ▸ now) (fun h i => by simpa only [State.fdr, shed] using h i)
    fun _ _ _ h => h.opportunity p

/-! ## Reset and completed insertions (R17, R23, R24) -/

/-- After a reset, or a RESTART that takes effect, no order waits and none begins to be sent, and the mode is AUTO. -/
theorem of_cleared {s t : State} (cleared : t.Cleared) (mode : t.mode.mode = .auto)
    (sends : ∀ p r f x, (t.port p).tx = .inserting r f x → ∃ y, (s.port p).tx = .inserting r f y) :
    s.KeepsOrders t := by
  obtain ⟨rest, empty⟩ := cleared
  refine of_parts (fun now => absurd (mode.symm.trans now) (by decide)) (fun _ i => ?_) fun _ _ _ h => h.of_kept (fun a o waits => ?_) sends
  · obtain ⟨reset, -⟩ : t.fdr i = FdrJob.reset ∧ _ := rest (.feeder i)
    exact .inl (congrArg FdrJob.order reset)
  · cases (empty a).symm.trans waits

theorem poweredUp (s : State) (strap : Addr) (mntHigh : Bool) : s.KeepsOrders (s.poweredUp strap mntHigh) := by
  refine of_cleared (s.poweredUp_cleared strap mntHigh) rfl fun p r f x sends => ?_
  obtain ⟨y, hy⟩ := (ActsOn.fillNotice _).sends p r f x sends
  rw [State.powered_port, PortState.cutOff_tx] at hy
  cases hy

theorem restartEffect (s : State) : s.KeepsOrders s.restartEffect := by
  refine of_cleared s.restartEffect_cleared rfl fun p r f x sends => ?_
  obtain ⟨y, hy⟩ := (ActsOn.fillNotice _).sends p r f x sends
  rw [State.restarted_port_tx] at hy
  exact Tx.orphan_inserting hy

theorem disowned (s : State) (r : EntryRef) : s.KeepsOrders { s with loop := s.loop.disown r } :=
  of_aside (.outbound rfl (fun _ o h => ⟨o, h, rfl⟩) fun _ _ _ _ h => State.disown_inserting h) rfl rfl

/-- A port's mark leaves an order as it is, or the order is done. -/
theorem sentOrder (s : State) (p : Port) (a : Addr) : s.KeepsOrders (s.sentOrder p a) := by
  unfold State.sentOrder
  split
  next => exact refl s
  next o waits =>
    refine ite (fun _ => emptySlot s a) fun _ => of_aside (.outbound rfl (fun b x hx => ?_)
      fun q _ _ y h => ⟨y, by cases q <;> exact h⟩) rfl rfl
    by_cases e : b = a
    · subst e
      cases (put_same _ _ _).symm.trans hx
      exact ⟨o, waits, rfl⟩
    · exact ⟨x, (put_other _ _ _ _ e).symm.trans hx, rfl⟩

theorem sentSegment (s : State) (p : Port) (i : Nat) : s.KeepsOrders (s.sentSegment p i) := by
  unfold State.sentSegment
  split
  next => exact refl s
  next x rest _ =>
    refine ite (fun _ => ?_) fun _ => of_same rfl
    have popped : s.KeepsOrders { s with loop := { s.loop.disown (.answer 0) with answers := rest } } :=
      (disowned s (.answer 0)).trans (of_same rfl)
    exact popped.trans (ite (fun _ => restartEffect _) fun _ => refl _)

theorem sentNotice (s : State) (p : Port) : s.KeepsOrders (s.sentNotice p) := by
  unfold State.sentNotice
  split
  · exact refl s
  · exact ite (fun _ => (disowned s .notice).trans (of_same rfl)) fun _ => of_same rfl

theorem inserted (s : State) (p : Port) : s.KeepsOrders (s.inserted p) := by
  unfold State.inserted
  split
  next r f stale _ =>
    extract_lets t
    have freed : s.KeepsOrders t := modPort s p _ fun r f x h => by cases PortState.startForward_inserting h
    refine freed.trans (ite (fun _ => refl t) fun _ => ?_)
    cases r with
    | order a => exact sentOrder t p a
    | answer i => exact sentSegment t p i
    | notice => exact sentNotice t p
  next => exact refl s
  next => exact refl s

/-! ## A commit takes effect (R176) -/

theorem emptyOldSlots (s : State) (old new : Bank) : s.KeepsOrders (s.emptyOldSlots old new) := by
  refine forEach _ (fun u t => ite (fun _ => ?_) fun _ => refl t) allUnits s
  split
  · exact refl t
  · exact emptySlot t _

theorem emptyOffOrder (s : State) (old new : Bank) : s.KeepsOrders (s.emptyOffOrder old new) := by
  refine forEach _ (fun e t => ite (fun _ => ?_) fun _ => refl t) s.shed.stack s
  split
  · exact refl t
  · split
    · exact refl t
    · exact ite (fun _ => emptySlot t _) fun _ => refl t

theorem pictureUnit (s : State) (old new : Bank) (u : UnitRef) : s.KeepsOrders (s.pictureUnit old new u) := by
  unfold State.pictureUnit
  refine ite (fun _ => by cases u <;> exact of_same rfl) fun _ => ?_
  extract_lets t
  have moved : s.KeepsOrders t := ite (fun _ => recordLost s u) fun _ => refl s
  refine moved.trans (ite (fun _ => refl t) fun _ => ?_)
  cases u with
  | genset g => exact ite (fun _ => refl t) fun _ => of_same rfl
  | pv b => exact ite (fun _ => refl t) fun _ => of_same rfl
  | feeder | busmeter => exact refl t

theorem commitPv (s : State) (old new : Bank) (b : Fin 16) : s.KeepsOrders (s.commitPv old new b) :=
  ite (fun _ => of_same rfl) fun _ => refl s

theorem commitJobs (s t : State) (old new : Bank) : t.KeepsOrders (s.commitJobs t old new) := by
  unfold State.commitJobs
  extract_lets pvs gens starts fdrs
  have allocator : t.KeepsOrders pvs := forEach _ (fun b u => commitPv u old new b) pvBlocks t
  have sequencer : pvs.KeepsOrders starts :=
    (forEach _ (fun g u => commitGen u old new _ g) gensets pvs).trans (endStarts 8 _)
  have shedding : starts.KeepsOrders fdrs := forEach _ (fun i u => commitFdr u old new i) feeders starts
  exact ((allocator.trans sequencer).trans shedding).trans (ite (fun _ => shedBusLost fdrs) fun _ => refl fdrs)

theorem commitController (s t : State) (old new : Bank) : t.KeepsOrders (s.commitController t old new) :=
  ite (fun _ => drained (enterSurvey t)) fun _ => ite (fun _ => drained (judgeBlind t)) fun _ => drain t

theorem commitEffect (s : State) : s.KeepsOrders s.commitEffect := by
  unfold State.commitEffect
  extract_lets old new emptied pictured judged
  have copied : s.KeepsOrders s.copyShadow := of_same rfl
  have slots : s.KeepsOrders emptied := (copied.trans (emptyOldSlots _ old new)).trans (emptyOffOrder _ old new)
  have picture : emptied.KeepsOrders pictured := forEach _ (fun u t => pictureUnit t old new u) allUnits emptied
  have jobs : pictured.KeepsOrders judged :=
    ((commitJobs s pictured old new).trans (commitController s _ old new)).trans (raise _ _)
  exact ((slots.trans picture).trans jobs).trans (of_same rfl)

theorem commitBoundary (s : State) : s.KeepsOrders s.commitBoundary := by
  refine ite (fun _ => refl s) fun _ => ite (fun _ => ?_) fun _ => refl s
  split
  · exact commitEffect s
  · exact of_same rfl

/-! ## Expiries -/

theorem expire (s : State) (t : Timer) (f : State → State) (h : ∀ u : State, u.KeepsOrders (f u)) :
    s.KeepsOrders (s.expire t f) := by
  cases t with
  | none => exact refl s
  | some d => exact (of_same (t := s.at d) rfl).trans (h _)

theorem expireSup (s : State) (g : Fin 8) (x : GenState) (f : State → State)
    (h : ∀ u : State, u.KeepsOrders (f u)) : s.KeepsOrders (s.expireSup g x fun u => (f u).drain) :=
  ite (fun _ => expire s _ _ fun u => drained (h u)) fun _ => refl s

theorem roundExpiry (s : State) : s.KeepsOrders s.roundExpiry :=
  expire s _ _ fun u => by
    have restarted (t : State) : t.KeepsOrders t.restartRound := of_same rfl
    exact ((commitBoundary u).trans (restarted _)).trans (round _)

theorem lostExpiry (s : State) (src : Addr) : s.KeepsOrders (s.lostExpiry src) := by
  unfold State.lostExpiry
  split
  · exact expire s _ _ fun _ => sourceLost _ src _
  · exact refl s

end State.KeepsOrders

/-! ## Every command -/

theorem exec_keepsOrders {c : Instr} {s t : State} (h : exec c s = .next t) : s.KeepsOrders t := by
  cases c with
  | powerUpOrPinReset strap mntHigh => cases h; exact .poweredUp s strap mntHigh
  | frameReceive p f => cases h; exact .receive s p f
  | readTable src token args | writeTable src token args | clearShadow src token args | commit src token args
  | readStatus src token args | ackNotices src token args | readUnit src token args | readBalance src token args
  | readStack src token args | setMode src token args | clearLockout src token args | blackStart src token args
  | abandon src token args | restart src token args => cases h; exact .takeDirective s src _ token args
  | lossOfSignal p => cases h; exact .losePort s p
  | errorWindowExpiry p =>
    cases h; exact .ite (fun _ => .refl s) fun _ => .expire s _ _ fun _ => .windowDone _ p
  | forwardTransmitDone p =>
    cases h; exact .modPort s p _ fun _ _ x hx => ⟨x, PortState.forwarded_inserting hx⟩
  | insertionOpportunity p => cases h; exact .opportunity s p
  | insertionComplete p => cases h; exact .inserted s p
  | lostTimerExpiry src => cases h; exact .lostExpiry s src
  | lateTimerExpiry u => cases h; exact .expire s _ _ fun _ => .lateDone _ u
  | roundTimerExpiry => cases h; exact .roundExpiry s
  | crankTimerExpiry g => cases h; exact .expireSup s g _ _ fun u => .failedAttempt u g
  | restTimerExpiry g => cases h; exact .expireSup s g _ _ fun u => .restDone u g _
  | warmTimerExpiry g => cases h; exact .expireSup s g _ _ fun u => .warmDone u g
  | hotTimerExpiry g => cases h; exact .expireSup s g _ _ fun u => .enterCooldown u g
  | syncTimerExpiry g => cases h; exact .expireSup s g _ _ fun u => .failedClose u g
  | minRunTimerExpiry g => cases h; exact .expire s _ _ fun _ => .modGen _ g _
  | unloadTimerExpiry g => cases h; exact .expireSup s g _ _ fun u => .unloadDone u g
  | coolTimerExpiry g => cases h; exact .expireSup s g _ _ fun u => .enterStopping u g
  | stopTimerExpiry g => cases h; exact .expireSup s g _ _ fun u => .enterNotReady u g
  | confirmTimerExpiry i => cases h; exact .expire s _ _ fun _ => .confirmExpiry _ i
  | stageDelayExpiry n =>
    cases h; exact .ite (fun _ => .expire s _ _ fun _ => .fireStage _ n) fun _ => .refl s
  | recoverTimerExpiry => cases h; exact .expire s _ _ fun _ => .of_same rfl
  | restoreDwellExpiry => cases h; exact .expire s _ _ fun _ => .of_same rfl
  | restoreIntervalExpiry => cases h; exact .expire s _ _ fun _ => .of_same rfl
  | secondsCountTick => cases h; exact .of_same rfl
  | surveyTimerExpiry => cases h; exact .expire s _ _ fun _ => .drained (.surveyDone _)
  | clearDownTimerExpiry => cases h; exact .expire s _ _ fun _ => .drained (.clearDownDone _)
  | blackStartLimitExpiry => cases h; exact .expire s _ _ fun _ => .drained (.limitDone _)
  | energizeTimerExpiry => cases h; exact .expire s _ _ fun _ => .drained (.energizeDone _)
  | stepIntervalExpiry => cases h; exact .expire s _ _ fun _ => .modBs _ _
  | capacityHoldExpiry => cases h; exact .expire s _ _ fun _ => .modBs _ _
  | pvHoldExpiry => cases h; exact .expire s _ _ fun _ => (State.KeepsOrders.modBs _ _).trans (.permitDone _)
  | pvGapExpiry => cases h; exact .expire s _ _ fun _ => (State.KeepsOrders.modBs _ _).trans (.permitDone _)
  | storeSaveDone => cases h; exact .ite (fun _ => .of_same rfl) fun _ => .refl s
  | mntLineLow => cases h; exact .lineLow s
  | mntLineHigh => cases h; exact .lineHigh s
  | pulseTimerExpiry => cases h; exact .expire s _ _ fun _ => .of_same rfl
  | trainTimerExpiry => cases h; exact .expire s _ _ fun _ => .trainDone _
  | lineModeTimerExpiry => cases h; exact .expire s _ _ fun _ => .returnToDirective _

/-- Settles O48: outside COMMISSIONING the jobs place what they will, in it an OPEN alone; the entry to it withdraws
every other order from the slots and the ports. -/
theorem commissioningSendsOpenAlone : Obligations.CommissioningSendsOpenAlone :=
  fun _ _ _ step => exec_keepsOrders step

end Sys2Proof.Machine
end

section
/-! SUPPORT. The active bank and the setting store (R167, R177) beside all that the jobs, the directives and the loop
do: they change neither. -/

namespace Sys2Proof.Machine

/-- The active bank and the setting store. -/
def State.settings (s : State) : Bank × Store := (s.bank.active, s.store)

theorem State.settings_of_kept {s t : State} (h : t.kept = s.kept) : t.settings = s.settings :=
  congrArg (fun k : Kept => (k.bank.active, k.store)) h

/-- Acting on each index of a list keeps the settings where each action keeps them. -/
theorem forEach_settings {ι : Type} (f : ι → State → State) (h : ∀ i s, (f i s).settings = s.settings)
    (is : List ι) (s : State) : (forEach is f s).settings = s.settings :=
  forEach_preserves (P := fun t => t.settings = s.settings) f is (fun i _ t same => (h i t).trans same) s rfl

/-- The event of a timer keeps the settings where its effect does; where the timer is stopped nothing happens. -/
theorem State.expire_settings {f : State → State} (h : ∀ u, (f u).settings = u.settings) (s : State) (t : Timer) :
    (s.expire t f).settings = s.settings := by
  cases t with
  | none => rfl
  | some d => exact h _

/-- So does the event of a timer whose effect ends with the handing on of the changes of the sets. -/
theorem State.expire_drain_settings {f : State → State} (h : ∀ u, (f u).kept = u.kept) (s : State) (t : Timer) :
    (s.expire t fun u => (f u).drain).settings = s.settings :=
  expire_settings (fun u => settings_of_kept ((f u).drain_kept.trans (h u))) s t

theorem State.expireSup_settings {f : State → State} (h : ∀ u, (f u).kept = u.kept) (s : State) (g : Fin 8)
    (x : GenState) : (s.expireSup g x fun u => (f u).drain).settings = s.settings := by
  simp only [State.expireSup, apply_ite State.settings, expire_drain_settings h, ite_self]

theorem State.raise_settings (s : State) (f : Flag) : (s.raise f).settings = s.settings :=
  settings_of_kept (s.raise_kept f)

theorem State.drain_settings (s : State) : s.drain.settings = s.settings := settings_of_kept s.drain_kept

/-! ## Reports and freshness -/

theorem State.tapRecord_settings (s : State) (u : UnitRef) (p : List Byte) :
    (s.tapRecord u p).settings = s.settings := by
  cases u <;> rfl

theorem State.handTap_kept (s : State) (u : UnitRef) : (s.handTap u).kept = s.kept := by
  cases u with
  | genset g =>
    unfold State.handTap
    dsimp only
    split
    next => rfl
    next => simp only [drain_kept, bsGenTap_kept, genEcho_kept, genTransition_kept]
  | pv b => simp only [State.handTap, drain_kept, bsSolTap_kept, curTap_kept]
  | feeder i => simp only [State.handTap, drain_kept, bsFdrTap_kept, shedFdrTap_kept]
  | busmeter =>
    unfold State.handTap
    dsimp only
    split
    next => rfl
    next => simp only [drain_kept, bsBusTap_kept, seqBusTap_kept, shedBusTap_kept]

theorem State.takeReport_settings (s : State) (src : Addr) (k : Byte) (p : List Byte) :
    (s.takeReport src k p).settings = s.settings := by
  unfold State.takeReport
  split
  next => rfl
  next u _ =>
    split
    · exact (settings_of_kept (State.handTap_kept _ u)).trans (s.tapRecord_settings u p)
    · rfl

theorem State.recordLost_settings (s : State) (u : UnitRef) : (s.recordLost u).settings = s.settings := by
  cases u <;> rfl

theorem State.handLost_kept (s : State) (u : UnitRef) : (s.handLost u).kept = s.kept := by
  cases u <;> simp only [State.handLost, drain_kept, genGoesLost_kept, judgeSettled_kept, judgeBlind_kept,
    shedBusLost_kept]

theorem State.lateDone_settings (s : State) (u : UnitRef) : (s.lateDone u).settings = s.settings := by
  unfold State.lateDone
  split
  · cases u <;> rfl
  · rfl

/-! ## The balance round -/

theorem State.handRound_kept (s : State) : s.handRound.kept = s.kept := by
  unfold State.handRound
  extract_lets f t u v w
  have started : u.kept = t.kept := by
    simp only [u, apply_ite State.kept, startRequest_kept, ite_self]
  have stopped : v.kept = u.kept := by
    unfold v
    split
    · rfl
    · exact u.stopSet_kept _
  have shed : w.kept = v.kept := by
    unfold w
    split
    · rfl
    · exact v.reducedDemand_kept _ _
  calc w.drain.kept = t.kept := by rw [drain_kept, shed, stopped, started]
    _ = s.kept := by simp only [t, roundComplete_kept, allocate_kept]

theorem State.round_settings (s : State) : s.round.settings = s.settings := by
  have computed : s.computedRound.settings = s.settings :=
    settings_of_kept ((State.handRound_kept _).trans (kept_bal s _))
  have uncomputed : s.uncomputedRound.settings = s.settings := rfl
  simp only [State.round, apply_ite State.settings, computed, uncomputed, ite_self]

/-! ## Modes and the maintenance line -/

theorem State.handMode_kept (s : State) (old : Mode) : (s.handMode old).kept = s.kept := by
  simp only [State.handMode, drain_kept, apply_ite State.kept, applyWaiting_kept, bsLeaveCommissioning_kept,
    shedEnterCommissioning_kept, seqEnterCommissioning_kept, curEnterCommissioning_kept, ite_self]

theorem State.modMode_settings (s : State) (f : ModeControl → ModeControl) : (s.modMode f).settings = s.settings := rfl

theorem State.applyMode_settings (s : State) (m : Mode) (src : ModeSource) :
    (s.applyMode m src).settings = s.settings := by
  have handed (t : State) (old : Mode) : (t.handMode old).settings = t.settings :=
    settings_of_kept (t.handMode_kept old)
  simp only [State.applyMode, apply_ite State.settings, handed, raise_settings, modMode_settings, ite_self]

theorem State.returnToDirective_settings (s : State) : s.returnToDirective.settings = s.settings :=
  (State.applyMode_settings _ _ _).trans (s.modMode_settings _)

theorem State.releaseTrain_settings (s : State) : s.releaseTrain.settings = s.settings := by
  have released (t : State) : t.releaseLockouts.settings = t.settings := settings_of_kept t.releaseLockouts_kept
  simp only [State.releaseTrain, drain_settings, released, returnToDirective_settings]

theorem State.trainDone_settings (s : State) : s.trainDone.settings = s.settings := by
  have proceeded (t : State) : t.trainProceed.settings = t.settings := settings_of_kept t.trainProceed_kept
  simp only [State.trainDone, State.trainAction, State.selectLine, apply_ite State.settings, drain_settings,
    proceeded, releaseTrain_settings, applyMode_settings, modMode_settings, ite_self]

theorem State.lineLow_settings (s : State) : s.lineLow.settings = s.settings := by
  simp only [State.lineLow, apply_ite State.settings, modMode_settings, ite_self]

theorem State.lineHigh_settings (s : State) : s.lineHigh.settings = s.settings := by
  simp only [State.lineHigh, apply_ite State.settings, modMode_settings, ite_self]

/-! ## Directives -/

theorem State.doSetMode_settings (s : State) (a : List Byte) : (s.doSetMode a).state.settings = s.settings := by
  unfold State.doSetMode
  split
  next => rfl
  next m _ =>
    split
    · rfl
    · simp only [apply_ite Carried.state, apply_ite State.settings, applyMode_settings, modMode_settings, ite_self]

theorem State.doClearLockout_kept (s : State) (a : List Byte) : (s.doClearLockout a).state.kept = s.kept := by
  unfold State.doClearLockout
  split
  · rfl
  · simp only [apply_ite Carried.state, apply_ite State.kept, drain_kept, clearLockout_kept, ite_self]

theorem State.doBlackStart_kept (s : State) : s.doBlackStart.state.kept = s.kept := by
  simp only [State.doBlackStart, apply_ite Carried.state, apply_ite State.kept, drain_kept, proceed_kept, ite_self]

theorem State.doAbandon_kept (s : State) : s.doAbandon.state.kept = s.kept := by
  unfold State.doAbandon
  split <;> simp only [drain_kept, enterAbandoned_kept]

/-- The directives that write change the shadow, or the pending mark, alone (R167, R173). -/
theorem State.carryOut_settings (s : State) (code : Byte) (a : List Byte) :
    (s.carryOut code a).state.settings = s.settings := by
  unfold State.carryOut
  split
  case h_1 => rw [Moves.doReadTable_state]
  case h_7 => rw [Moves.doReadUnit_state]
  case h_10 => exact s.doSetMode_settings a
  case h_11 => exact settings_of_kept (s.doClearLockout_kept a)
  case h_12 => exact settings_of_kept s.doBlackStart_kept
  case h_13 => exact settings_of_kept s.doAbandon_kept
  all_goals rfl

theorem State.takeDirective_settings (s : State) (src : Addr) (code token : Byte) (a : List Byte) :
    (s.takeDirective src code token a).settings = s.settings := by
  have joined (t : State) (r : Reply) : (t.join src code token r).settings = t.settings := rfl
  have counted : State.settings { s with dir := { s.dir with overrun := min 255 (s.dir.overrun + 1) } } =
    s.settings := rfl
  simp only [State.takeDirective, State.judgeDirective, apply_ite Carried.state, apply_ite State.settings, joined,
    counted, carryOut_settings, ite_self]

/-! ## The loop -/

theorem State.modPort_settings (s : State) (p : Port) (f : PortState → PortState) :
    (s.modPort p f).settings = s.settings := by
  simp only [State.settings, modPort_bank, modPort_store]

theorem State.mapMarks_settings (s : State) (f : Marks → Marks) : (s.mapMarks f).settings = s.settings := by
  simp only [State.settings, mapMarks_bank, mapMarks_store]

theorem State.countGood_settings (s : State) (p : Port) : (s.countGood p).settings = s.settings := by
  simp only [State.countGood, State.portEntersUp, apply_ite State.settings, raise_settings, mapMarks_settings,
    modPort_settings, ite_self]

theorem State.losePort_settings (s : State) (p : Port) : (s.losePort p).settings = s.settings := by
  simp only [State.losePort, apply_ite State.settings, raise_settings, mapMarks_settings, modPort_settings, ite_self]

theorem State.windowDone_settings (s : State) (p : Port) : (s.windowDone p).settings = s.settings := by
  simp only [State.windowDone, apply_ite State.settings, raise_settings, modPort_settings, ite_self]

theorem State.intake_settings (s : State) (f : Frame) : (s.intake f).settings = s.settings := by
  have payload (t : State) : (t.takePayload (lowSix f.src) f.payload).settings = t.settings := by
    unfold State.takePayload
    split
    · exact t.takeDirective_settings _ _ _ _
    · rfl
  have accepted (i : Fin 63) : (s.acceptSeq i f.seq).settings = s.settings := rfl
  unfold State.intake
  split
  · simp only [State.route, apply_ite State.settings, takeReport_settings, payload, accepted, ite_self]
  · rfl

theorem State.handleFrame_settings (s : State) (p : Port) (f : Frame) : (s.handleFrame p f).settings = s.settings := by
  have forwarded (t : State) : (t.forward p f).settings = t.settings := by
    simp only [State.forward, apply_ite State.settings, modPort_settings, ite_self]
  have offered (t : State) : (t.offer f).settings = t.settings := by
    simp only [State.offer, apply_ite State.settings, intake_settings, ite_self]
  simp only [State.handleFrame, apply_ite State.settings, offered, forwarded, ite_self]

theorem State.receive_settings (s : State) (p : Port) (f : RxFrame) : (s.receive p f).settings = s.settings := by
  unfold State.receive
  split
  next => rfl
  next => exact s.modPort_settings p _
  next g _ => exact (State.handleFrame_settings _ p g).trans (s.countGood_settings p)

theorem State.sourceLost_settings (s : State) (src : Addr) (i : Fin 63) :
    (s.sourceLost src i).settings = s.settings := by
  have lost (t : State) (u : UnitRef) : ((t.recordLost u).handLost u).settings = t.settings :=
    (settings_of_kept (State.handLost_kept _ u)).trans (t.recordLost_settings u)
  unfold State.sourceLost
  dsimp only
  split
  next => rfl
  next u _ => simp only [apply_ite State.settings, lost, ite_self]; rfl

theorem State.opportunity_settings (s : State) (p : Port) : (s.opportunity p).settings = s.settings := by
  obtain passed | ⟨_, _, _, -, begun⟩ := s.opportunity_cases p
  · rw [passed]
  · rw [begun, modPort_settings]

theorem State.sentOrder_settings (s : State) (p : Port) (a : Addr) : (s.sentOrder p a).settings = s.settings := by
  unfold State.sentOrder
  split
  · rfl
  · split <;> rfl

theorem State.sentNotice_settings (s : State) (p : Port) : (s.sentNotice p).settings = s.settings := by
  unfold State.sentNotice
  split
  · rfl
  · split <;> rfl

/-- RESTART keeps both banks and the store (R180). -/
theorem State.restartEffect_settings (s : State) : s.restartEffect.settings = s.settings := rfl

theorem State.sentSegment_settings (s : State) (p : Port) (i : Nat) : (s.sentSegment p i).settings = s.settings := by
  unfold State.sentSegment
  split
  · rfl
  · simp only [State.popAnswer, apply_ite State.settings, restartEffect_settings]
    simp only [State.settings, ite_self]

theorem State.inserted_settings (s : State) (p : Port) : (s.inserted p).settings = s.settings := by
  unfold State.inserted
  split
  next r f stale _ =>
    have sent (t : State) : (t.sent p r).settings = t.settings := by
      cases r with
      | order a => exact t.sentOrder_settings p a
      | answer i => exact t.sentSegment_settings p i
      | notice => exact t.sentNotice_settings p
    simp only [apply_ite State.settings, sent, modPort_settings, ite_self]
  next => rfl
  next => rfl

end Sys2Proof.Machine
end

section
/-! SUPPORT. The events that change the active bank and the setting store (R167, R175 to R178). -/

namespace Sys2Proof.Machine

/-! ## The commit boundary -/

theorem State.emptySlot_settings (s : State) (a : Addr) : (s.emptySlot a).settings = s.settings := rfl

theorem State.emptyOldSlots_settings (s : State) (old new : Bank) :
    (s.emptyOldSlots old new).settings = s.settings := by
  refine forEach_settings _ (fun u t => ?_) allUnits s
  cases old.stationOf u <;> simp only [apply_ite State.settings, emptySlot_settings, ite_self]

theorem State.emptyOffOrder_settings (s : State) (old new : Bank) :
    (s.emptyOffOrder old new).settings = s.settings := by
  refine forEach_settings _ (fun e t => ?_) s.shed.stack s
  split
  · split
    · rfl
    · split
      · rfl
      · simp only [apply_ite State.settings, emptySlot_settings, ite_self]
  · rfl

theorem State.pictureUnit_settings (s : State) (old new : Bank) (u : UnitRef) :
    (s.pictureUnit old new u).settings = s.settings := by
  have gens (t : State) (g : Fin 8) (f : GenRec → GenRec) : (t.modGenRec g f).settings = t.settings := rfl
  have pvs (t : State) (b : Fin 16) (f : PvRec → PvRec) : (t.modPvRec b f).settings = t.settings := rfl
  unfold State.pictureUnit
  split
  · cases u <;> rfl
  · cases u <;> simp only [apply_ite State.settings, gens, pvs, recordLost_settings, ite_self]

theorem State.commitGen_kept (s : State) (old new : Bank) (wasLost : Bool) (g : Fin 8) :
    (s.commitGen old new wasLost g).kept = s.kept := by
  simp only [State.commitGen, apply_ite State.kept, modGen_kept, setGenState_kept, genGoesLost_kept, ite_self]

theorem State.commitJobs_kept (s t : State) (old new : Bank) : (s.commitJobs t old new).kept = t.kept := by
  have pvs (x : State) : (forEach pvBlocks (fun b t => t.commitPv old new b) x).kept = x.kept :=
    forEach_kept _ (fun b x => by simp only [State.commitPv, apply_ite State.kept, modPv_kept, ite_self]) pvBlocks x
  have gens (x : State) : (forEach gensets (fun g t => t.commitGen old new (s.genLost g) g) x).kept = x.kept :=
    forEach_kept _ (fun g x => x.commitGen_kept old new _ g) gensets x
  have fdrs (x : State) : (forEach feeders (fun f t => t.commitFdr old new f) x).kept = x.kept :=
    forEach_kept _ (fun f x => by
      simp only [State.commitFdr, apply_ite State.kept, modFdr_kept, unstack_kept, ite_self]) feeders x
  simp only [State.commitJobs, apply_ite State.kept, shedBusLost_kept, fdrs, endStarts_kept, gens, pvs, ite_self]

theorem State.commitController_kept (s t : State) (old new : Bank) :
    (s.commitController t old new).kept = t.kept := by
  simp only [State.commitController, apply_ite State.kept, drain_kept, enterSurvey_kept, judgeBlind_kept, ite_self]

/-- What a commit leaves of the settings: the shadow has become the active bank, and the save of it has begun, with
the image in the store as it was (R176, R177). -/
def State.committedSettings (s : State) : Bank × Store :=
  (s.bank.shadow, { s.store with cond := .saving, whole := false })

theorem State.commitEffect_settings (s : State) : s.commitEffect.settings = s.committedSettings := by
  unfold State.commitEffect
  extract_lets old new emptied pictured judged
  have slots : emptied.settings = (s.bank.shadow, s.store) :=
    (State.emptyOffOrder_settings _ old new).trans (State.emptyOldSlots_settings _ old new)
  have picture : pictured.settings = emptied.settings :=
    forEach_settings _ (fun u t => t.pictureUnit_settings old new u) allUnits emptied
  have jobs : judged.settings = pictured.settings := settings_of_kept <| by
    simp only [judged, raise_kept, commitController_kept, commitJobs_kept]
  have before : judged.settings = (s.bank.shadow, s.store) := (jobs.trans picture).trans slots
  exact congrArg (fun x : Bank × Store => (x.1, { x.2 with cond := .saving, whole := false })) before

/-- A pending commit whose boundary is reached (R175). -/
def State.AtBoundary (s : State) : Prop :=
  s.bank.pending = true ∧ (s.bs.island = .balancing ∨ s.bs.island = .unconfigured) ∧ s.shed.ufActive = false

/-- The boundary keeps the settings, but where a pending commit takes effect at it. -/
theorem State.commitBoundary_settings (s : State) :
    s.commitBoundary.settings = s.settings ∨ s.AtBoundary ∧ s.commitBoundary.settings = s.committedSettings := by
  unfold State.commitBoundary
  split
  next => exact .inl rfl
  next pending =>
    split
    next quiet =>
      split
      next =>
        refine .inr ⟨?_, s.commitEffect_settings⟩
        simpa [State.AtBoundary] using And.intro pending quiet
      next => exact .inl rfl
    next => exact .inl rfl

/-- At the end of a round nothing but the boundary reaches the settings (R44). -/
theorem State.roundExpiry_settings (s : State) :
    s.roundExpiry.settings = s.settings ∨ s.AtBoundary ∧ s.roundExpiry.settings = s.committedSettings := by
  have after (t : State) : t.restartRound.round.settings = t.settings := t.restartRound.round_settings
  unfold State.roundExpiry State.expire
  split
  next => exact .inl rfl
  next d _ =>
    rw [after]
    exact (s.at d).commitBoundary_settings

/-! ## The store -/

/-- The end of a save (R177). -/
theorem State.saveDone_of_saving {s : State} (saving : s.store.cond = .saving) : s.saveDone = { s with
    store := ⟨.valid, true, s.bank.active.image, crc16 s.bank.active.image⟩ } := by
  simp [State.saveDone, saving]

theorem State.saveDone_of_not_saving {s : State} (idle : s.store.cond ≠ .saving) : s.saveDone = s := by
  simp [State.saveDone, idle]

theorem State.saveDone_bank (s : State) : s.saveDone.bank = s.bank := by
  simp only [State.saveDone, apply_ite State.bank, ite_self]

/-- A power-up judges the image and keeps it (R178). -/
theorem State.poweredUp_image (s : State) (strap : Addr) (mntHigh : Bool) :
    (s.poweredUp strap mntHigh).store.image = s.store.image := rfl

/-! ## Every command -/

/-- Every command but a power-up, the end of a round and the end of a save keeps the active bank and the store. -/
theorem exec_settings {c : Instr} {s t : State} (h : exec c s = .next t) :
    t.settings = s.settings ∨ c = .storeSaveDone ∨ c = .roundTimerExpiry ∨
      ∃ strap mntHigh, c = .powerUpOrPinReset strap mntHigh := by
  have permitted (u : State) : u.permitDone.settings = u.settings := State.settings_of_kept <| by
    simp only [State.permitDone, apply_ite State.kept, State.drain_kept, State.permitExpiry_kept, ite_self]
  have always {f : State → State} {d : Timer} (kept : ∀ u, (f u).settings = u.settings) :
      (s.expire d f).settings = s.settings := State.expire_settings kept s d
  cases c with
  | powerUpOrPinReset strap mntHigh => exact .inr (.inr (.inr ⟨strap, mntHigh, rfl⟩))
  | roundTimerExpiry => exact .inr (.inr (.inl rfl))
  | storeSaveDone => exact .inr (.inl rfl)
  | insertionOpportunity p => cases h; exact .inl (s.opportunity_settings p)
  | insertionComplete p => cases h; exact .inl (s.inserted_settings p)
  | readTable src token args | writeTable src token args | clearShadow src token args | commit src token args
  | readStatus src token args | ackNotices src token args | readUnit src token args | readBalance src token args
  | readStack src token args | setMode src token args | clearLockout src token args | blackStart src token args
  | abandon src token args | restart src token args =>
    cases h; exact .inl (s.takeDirective_settings src _ token args)
  | frameReceive p f => cases h; exact .inl (s.receive_settings p f)
  | lossOfSignal p => cases h; exact .inl (s.losePort_settings p)
  | errorWindowExpiry p =>
    cases h
    simp only [State.windowExpiry, apply_ite State.settings, always (State.windowDone_settings · p), ite_self,
      true_or]
  | forwardTransmitDone p => cases h; exact .inl (s.modPort_settings p _)
  | lostTimerExpiry src =>
    cases h
    unfold State.lostExpiry
    split
    · exact .inl (always (State.sourceLost_settings · src _))
    · exact .inl rfl
  | lateTimerExpiry u => cases h; exact .inl (always (State.lateDone_settings · u))
  | crankTimerExpiry g => cases h; exact .inl (State.expireSup_settings (State.failedAttempt_kept · g) s g _)
  | restTimerExpiry g => cases h; exact .inl (State.expireSup_settings (fun u => u.restDone_kept g _) s g _)
  | warmTimerExpiry g => cases h; exact .inl (State.expireSup_settings (State.warmDone_kept · g) s g _)
  | hotTimerExpiry g => cases h; exact .inl (State.expireSup_settings (State.enterCooldown_kept · g) s g _)
  | syncTimerExpiry g => cases h; exact .inl (State.expireSup_settings (State.failedClose_kept · g) s g _)
  | unloadTimerExpiry g => cases h; exact .inl (State.expireSup_settings (State.unloadDone_kept · g) s g _)
  | coolTimerExpiry g => cases h; exact .inl (State.expireSup_settings (State.enterStopping_kept · g) s g _)
  | stopTimerExpiry g => cases h; exact .inl (State.expireSup_settings (State.enterNotReady_kept · g) s g _)
  | minRunTimerExpiry g => cases h; exact .inl (always fun _ => rfl)
  | confirmTimerExpiry i =>
    cases h; exact .inl (always fun u => State.settings_of_kept (u.confirmExpiry_kept i))
  | stageDelayExpiry n =>
    cases h
    have fired (d : Timer) : (s.expire d (State.fireStage · n)).settings = s.settings :=
      always fun u => State.settings_of_kept (u.fireStage_kept n)
    simp only [State.delayExpiry, apply_ite State.settings, fired, ite_self, true_or]
  | recoverTimerExpiry => cases h; exact .inl (always fun u => State.settings_of_kept u.endEvent_kept)
  | restoreDwellExpiry => cases h; exact .inl (always fun _ => rfl)
  | restoreIntervalExpiry => cases h; exact .inl (always fun _ => rfl)
  | secondsCountTick => cases h; exact .inl rfl
  | surveyTimerExpiry => cases h; exact .inl (State.expire_drain_settings State.surveyDone_kept s _)
  | clearDownTimerExpiry => cases h; exact .inl (State.expire_drain_settings State.clearDownDone_kept s _)
  | blackStartLimitExpiry => cases h; exact .inl (State.expire_drain_settings State.limitDone_kept s _)
  | energizeTimerExpiry => cases h; exact .inl (State.expire_drain_settings State.energizeDone_kept s _)
  | stepIntervalExpiry => cases h; exact .inl (always fun _ => rfl)
  | capacityHoldExpiry => cases h; exact .inl (always fun _ => rfl)
  | pvHoldExpiry => cases h; exact .inl (always fun _ => permitted _)
  | pvGapExpiry => cases h; exact .inl (always fun _ => permitted _)
  | mntLineLow => cases h; exact .inl s.lineLow_settings
  | mntLineHigh => cases h; exact .inl s.lineHigh_settings
  | pulseTimerExpiry => cases h; exact .inl (always fun _ => rfl)
  | trainTimerExpiry => cases h; exact .inl (always State.trainDone_settings)
  | lineModeTimerExpiry => cases h; exact .inl (always State.returnToDirective_settings)

/-- What a change of the active bank comes from (R167). -/
theorem exec_active {c : Instr} {s t : State} (h : exec c s = .next t) (changed : t.bank.active ≠ s.bank.active) :
    (∃ strap mntHigh, c = .powerUpOrPinReset strap mntHigh) ∨
      c = .roundTimerExpiry ∧ s.AtBoundary ∧ t.bank.active = s.bank.shadow := by
  obtain same | rfl | rfl | powered := exec_settings h
  · exact absurd (congrArg Prod.fst same) changed
  · cases h
    exact absurd (congrArg TableBank.active s.saveDone_bank) changed
  · cases h
    obtain same | ⟨boundary, committed⟩ := s.roundExpiry_settings
    · exact absurd (congrArg Prod.fst same) changed
    · exact .inr ⟨rfl, boundary, congrArg Prod.fst committed⟩
  · exact .inl powered

/-- What a change of the image comes from (log entry 28). -/
theorem exec_image {c : Instr} {s t : State} (h : exec c s = .next t) (changed : t.store.image ≠ s.store.image) :
    c = .storeSaveDone ∧ s.store.cond = .saving := by
  obtain same | rfl | rfl | ⟨strap, mntHigh, rfl⟩ := exec_settings h
  · exact absurd (congrArg (·.2.image) same) changed
  · cases h
    refine ⟨rfl, Classical.by_contradiction fun idle => changed ?_⟩
    rw [State.saveDone_of_not_saving idle]
  · cases h
    obtain same | ⟨-, committed⟩ := s.roundExpiry_settings
    · exact absurd (congrArg (·.2.image) same) changed
    · exact absurd (congrArg (·.2.image) committed) changed
  · cases h
    exact absurd (s.poweredUp_image strap mntHigh) changed

/-- Settles O53: no command but the three named reaches the active bank or the store; of these the end of a round
copies the shadow at a boundary alone and leaves the image, and the power-up leaves the image. -/
theorem bankAndImageChangeAtTheirEventsAlone : Obligations.BankAndImageChangeAtTheirEventsAlone := by
  refine ⟨fun c s t step changed => ?_, fun s saving => ?_, fun c s t step => ⟨exec_image step, fun changed => ?_⟩⟩
  · obtain powered | ⟨round, ⟨pending, island, noEvent⟩, copied⟩ := exec_active step changed
    · exact .inl powered
    · exact .inr ⟨round, pending, copied, island, noEvent⟩
  · exact congrArg Host.Outcome.next (State.saveDone_of_saving saving)
  · exact (exec_settings step).resolve_left fun same => changed (congrArg Prod.snd same)

end Sys2Proof.Machine
end
